-- ==== Sys2Proof/Word.lean ====
section
/-! DEFINITION. The word types of the engine and the plain modular arithmetic of 00_scope.md rules R6 and R7. -/

namespace Sys2Proof

/-- A byte: 8 bits (00_scope.md R6). -/
abbrev Byte := BitVec 8

/-- A word: 32 bits, the width of an accumulator word, a message word and a working variable (R5, R6). -/
abbrev Word := BitVec 32

/-- A 64-bit value: the byte counter and the bit length (R5, 10_state.md R25). -/
abbrev Count := BitVec 64

/-- A command word: 68 bits (30_encoding.md R80). -/
abbrev CmdWord := BitVec 68

/-- A step index: 6 bits (30_encoding.md R90). -/
abbrev StepIndex := BitVec 6

/-- The 128 data bits of a response (30_encoding.md R87). -/
abbrev Data := BitVec 128

/-- `add32` of R7: the sum mod 2^32. -/
def add32 (p q : Word) : Word := p + q

/-- `add64` of R7: the sum mod 2^64. -/
def add64 (p q : Count) : Count := p + q

/-- `mul64` of R7: the product mod 2^64. -/
def mul64 (p q : Count) : Count := p * q

/-- `and32` of R7. -/
def and32 (p q : Word) : Word := p &&& q

/-- `or32` of R7. -/
def or32 (p q : Word) : Word := p ||| q

/-- `xor32` of R7. -/
def xor32 (p q : Word) : Word := p ^^^ q

/-- `not32` of R7: `x xor 0xFFFFFFFF`. -/
def not32 (p : Word) : Word := p ^^^ 0xFFFFFFFF#32

end Sys2Proof
end

