-- ==== Sys2Proof/Config.lean ====
section
/-! DEFINITION. The sizes of 00_scope.md rule R5. The constant ROM, which a repair may have to mend, is in
Machine/Rom.lean. The two open parameters are arguments: `SRC_MAX` of `stepWith` (Machine/Fetch.lean), `N_INSTANCES` of
`Platform` (Machine/Platform.lean). The spec leaves no value undefined, so there is no free value here. -/

namespace Sys2Proof.Config

/-- `BLOCK_SIZE`: bytes per block, the capacity of the buffer (R5). -/
abbrev blockSize : Nat := 64

/-- `DIGEST_BITS`: what `LENGTH` returns (R5, R110). -/
abbrev digestBits : Nat := 128

/-- `STEPS`: round operations per compression (R5). -/
abbrev steps : Nat := 48

/-- `PAD_MIN`: the least padding length, the threshold of `len < 9` (R5, R181). -/
abbrev padMin : Nat := 9

/-- `PAD_MARKER`: the first padding byte (R5, R182). -/
abbrev padMarker : Byte := 0x80#8

/-- The default the spec gives the open parameter `SRC_MAX`, the greatest size in bytes of a source (R5, D4): the
argument of `stepWith` for which `step` stands (log entry 10). -/
def srcMaxDefault : Nat := 2 ^ 31 - 1

end Sys2Proof.Config
end

