-- ==== Sys2Proof/Syntax.lean ====
section
/-! DEFINITION. The instructions: one constructor per row of spec/opcode_table.json, eight commands of the command
port (30_encoding.md R82) and the 48 step operations of the block compressor's sequencer (R90). -/

namespace Sys2Proof

/-- One constructor per row of the opcode table. `sp` says whether a source is attached (R80); `offset` and `len` (the field `length`)
are the mathematical integers R83 reads from their fields; the source's bytes are not part of the word but stand on
the source channel (`State.src`). -/
inductive Instr where
  /-- `LENGTH`, op 0 (R110). -/
  | length
  /-- `RESET`, op 1 (R111). -/
  | reset
  /-- `UPDATE_BYTE b`, op 2 (R121). -/
  | updateByte (data : Byte)
  /-- `UPDATE_ALL src`, op 3 (R124). -/
  | updateAll (sp : Bool)
  /-- `UPDATE_RANGE src, offset, length`, op 4 (R123). -/
  | updateRange (sp : Bool) (offset len : Int)
  /-- `DIGEST_ALL src`, op 5 (R189). -/
  | digestAll (sp : Bool)
  /-- `DIGEST_RANGE src, offset, length`, op 6 (R190). -/
  | digestRange (sp : Bool) (offset len : Int)
  /-- `DIGEST`, op 7 (R188). -/
  | digest
  -- the sixteen operations of round 1 (R147)
  | step00 | step01 | step02 | step03
  | step04 | step05 | step06 | step07
  | step08 | step09 | step10 | step11
  | step12 | step13 | step14 | step15
  -- the sixteen operations of round 2 (R148)
  | step16 | step17 | step18 | step19
  | step20 | step21 | step22 | step23
  | step24 | step25 | step26 | step27
  | step28 | step29 | step30 | step31
  -- the sixteen operations of round 3 (R149)
  | step32 | step33 | step34 | step35
  | step36 | step37 | step38 | step39
  | step40 | step41 | step42 | step43
  | step44 | step45 | step46 | step47
  deriving DecidableEq, Repr

end Sys2Proof
end

