-- ==== Sys2Proof/WellFormed.lean ====
section
/-! DEFINITION. Which terms of `Instr` are instructions of the machine: the signed operands lie in the range their
32-bit two's complement fields hold (30_encoding.md R83). Every other operand is right by its type. -/

namespace Sys2Proof

/-- The range of a signed 32-bit operand: -2^31 to 2^31 - 1 (R83). -/
def fitsArg (n : Int) : Bool := decide (-2147483648 ≤ n) && decide (n ≤ 2147483647)

/-- Well-formed instructions: `offset` and `length` are values of their fields (R83). -/
def Instr.wf : Instr → Bool
  | .updateRange _ offset len => fitsArg offset && fitsArg len
  | .digestRange _ offset len => fitsArg offset && fitsArg len
  | _ => true

end Sys2Proof
end

