-- ==== Sys2Proof/Decode.lean ====
section
/-! DEFINITION. Decoding a command word (30_encoding.md R80 to R86) and a step index (R90), and after them the encoder.
A command is a 68-bit word on the command port, a step operation a 6-bit index inside the sequencer: they are two
encodings that cannot be confused, so the bits to decode come with which of the two they are. -/

namespace Sys2Proof

/-- What the engine decodes: a command word (R80) or a step index (R90). -/
inductive Encoded where
  | command (w : CmdWord)
  | step (t : StepIndex)
  deriving DecidableEq, Repr

/-- The one way decoding can fail: a step index 48 to 63 ("Values 48 to 63 never occur", R90). Every command word
decodes (R85). -/
inductive DecodeError where
  | noSuchStep (t : StepIndex)
  deriving DecidableEq, Repr

/-- Field `op`, `W[2:0]` (R80). -/
def opField (w : CmdWord) : BitVec 3 := w.extractLsb' 0 3

/-- Field `sp`, `W[3]` (R80). -/
def spField (w : CmdWord) : Bool := w.getLsbD 3

/-- Field `data`, `W[11:4]` (R80). -/
def dataField (w : CmdWord) : Byte := w.extractLsb' 4 8

/-- Field `offset`, `sext(W[35:4])` as a mathematical integer (R83). -/
def offsetField (w : CmdWord) : Int := (w.extractLsb' 4 32).toInt

/-- Field `length`, `sext(W[67:36])` as a mathematical integer (R83). -/
def lengthField (w : CmdWord) : Int := (w.extractLsb' 36 32).toInt

/-- The command decoder: it "reads W[2:0] and is done" (R86); the opcode map is R82. The last arm is op 7, the only
value of three bits that is left. -/
def decodeCommand (w : CmdWord) : Instr :=
  match (opField w).toNat with
  | 0 => .length
  | 1 => .reset
  | 2 => .updateByte (dataField w)
  | 3 => .updateAll (spField w)
  | 4 => .updateRange (spField w) (offsetField w) (lengthField w)
  | 5 => .digestAll (spField w)
  | 6 => .digestRange (spField w) (offsetField w) (lengthField w)
  | _ => .digest

/-- The step operations of round 1, in the order of their index (R90, R154). -/
def stepRow1 : List Instr :=
  [.step00, .step01, .step02, .step03,
   .step04, .step05, .step06, .step07,
   .step08, .step09, .step10, .step11,
   .step12, .step13, .step14, .step15]

/-- The step operations of round 2, in the order of their index (R90, R154). -/
def stepRow2 : List Instr :=
  [.step16, .step17, .step18, .step19,
   .step20, .step21, .step22, .step23,
   .step24, .step25, .step26, .step27,
   .step28, .step29, .step30, .step31]

/-- The step operations of round 3, in the order of their index (R90, R154). -/
def stepRow3 : List Instr :=
  [.step32, .step33, .step34, .step35,
   .step36, .step37, .step38, .step39,
   .step40, .step41, .step42, .step43,
   .step44, .step45, .step46, .step47]

/-- The 48 step operations in the order of their index (R90). -/
def stepInstrs : List Instr := stepRow1 ++ stepRow2 ++ stepRow3

/-- The step decoder (R90): index `t` is the `t`-th step operation, and an index from 48 on is rejected by name. -/
def decodeStep (t : StepIndex) : Except DecodeError Instr :=
  match stepInstrs[t.toNat]? with
  | some i => .ok i
  | none => .error (.noSuchStep t)

/-- Decoding, total on every command word and every step index. -/
def decode : Encoded → Except DecodeError Instr
  | .command w => .ok (decodeCommand w)
  | .step t => decodeStep t

/-- A command word from its fields, the layout of R80: `length` above `offset` above `sp` above `op`. -/
def packWord (op : BitVec 3) (sp : Bool) (offset length : BitVec 32) : CmdWord :=
  length ++ offset ++ BitVec.ofBool sp ++ op

/-- The canonical encoding of an instruction, which sets ignored fields to 0 (R84). -/
def encode : Instr → Encoded
  | .length => .command (packWord 0 false 0 0)
  | .reset => .command (packWord 1 false 0 0)
  | .updateByte data => .command (packWord 2 false (data.setWidth 32) 0)
  | .updateAll sp => .command (packWord 3 sp 0 0)
  | .updateRange sp offset len => .command (packWord 4 sp (BitVec.ofInt 32 offset) (BitVec.ofInt 32 len))
  | .digestAll sp => .command (packWord 5 sp 0 0)
  | .digestRange sp offset len => .command (packWord 6 sp (BitVec.ofInt 32 offset) (BitVec.ofInt 32 len))
  | .digest => .command (packWord 7 false 0 0)
  | .step00 => .step 0
  | .step01 => .step 1
  | .step02 => .step 2
  | .step03 => .step 3
  | .step04 => .step 4
  | .step05 => .step 5
  | .step06 => .step 6
  | .step07 => .step 7
  | .step08 => .step 8
  | .step09 => .step 9
  | .step10 => .step 10
  | .step11 => .step 11
  | .step12 => .step 12
  | .step13 => .step 13
  | .step14 => .step 14
  | .step15 => .step 15
  | .step16 => .step 16
  | .step17 => .step 17
  | .step18 => .step 18
  | .step19 => .step 19
  | .step20 => .step 20
  | .step21 => .step 21
  | .step22 => .step 22
  | .step23 => .step 23
  | .step24 => .step 24
  | .step25 => .step 25
  | .step26 => .step 26
  | .step27 => .step 27
  | .step28 => .step 28
  | .step29 => .step 29
  | .step30 => .step 30
  | .step31 => .step 31
  | .step32 => .step 32
  | .step33 => .step 33
  | .step34 => .step 34
  | .step35 => .step 35
  | .step36 => .step 36
  | .step37 => .step 37
  | .step38 => .step 38
  | .step39 => .step 39
  | .step40 => .step 40
  | .step41 => .step 41
  | .step42 => .step 42
  | .step43 => .step 43
  | .step44 => .step 44
  | .step45 => .step 45
  | .step46 => .step 46
  | .step47 => .step 47

/-- The bits of an opcode-table row as what the engine decodes: a row of at most 8 bits is a step index (6 bits in
the table), any longer row a command word (68 bits). Bits above the 6 or 68 do not exist on the hardware and are
dropped (log entry 14). -/
def encodedOfTable (nbits w : Nat) : Encoded :=
  if nbits ≤ 8 then .step (BitVec.ofNat 6 w) else .command (BitVec.ofNat 68 w)

/-- The instruction the decoder reads from a word of the opcode table, `none` where it refuses. -/
def decodeTableWord (nbits w : Nat) : Option Instr :=
  match decode (encodedOfTable nbits w) with
  | .ok i => some i
  | .error _ => none

end Sys2Proof
end

