-- ==== Sys2Proof/Machine/Rom.lean ====
section
/-! DEFINITION. The constant ROM (10_state.md R32): `IV`, `T`, `S` and `K`. It is a parameter of the machine, not
state: no command writes it and it is the same for every instance. -/

namespace Sys2Proof.Machine

/-- The three rounds of a compression (00_scope.md R5, 42_compression.md R150). -/
inductive Round where
  | r1 | r2 | r3
  deriving DecidableEq, Repr

/-- `IV[0..3]`: the initial accumulator constants (10_state.md R32). -/
def iv : Vector Word 4 := #v[0x67452301#32, 0xEFCDAB89#32, 0x98BADCFE#32, 0x10325476#32]

/-- `T[2]`, the additive constant of round 2 (42_compression.md R153). Round 1 has none. -/
def romT2 : Word := 0x5A827999#32

/-- `T[3]`, the additive constant of round 3 (42_compression.md R153). -/
def romT3 : Word := 0x6ED9EBA1#32

/-- `S[r][0..3]`: the rotation amounts of a round (42_compression.md R152). -/
def romS : Round → Vector Nat 4
  | .r1 => #v[3, 7, 11, 19]
  | .r2 => #v[3, 5, 9, 13]
  | .r3 => #v[3, 9, 11, 15]

/-- `K[r][0..15]`: the message-word order of a round (42_compression.md R151; log entry 13). -/
def romK : Round → Vector (Fin 16) 16
  | .r1 => #v[0, 1, 2, 3, 4, 5, 6, 7, 8, 9, 10, 11, 12, 13, 14, 15]
  | .r2 => #v[0, 4, 8, 12, 1, 5, 9, 13, 2, 6, 10, 14, 3, 7, 11, 15]
  | .r3 => #v[0, 8, 4, 12, 2, 10, 6, 14, 1, 9, 5, 13, 3, 11, 7, 15]

end Sys2Proof.Machine
end

