-- ==== Sys2Proof/Machine/State.lean ====
section
/-! DEFINITION. The state of one engine instance as plain data: the four architectural items (10_state.md R20), the
transients of a compression that the step operations act on (R31), and the ports of the transaction-level interface
(92_eei_decisions.md D1). With it the reasons a step can stop, and the state after reset. -/

namespace Sys2Proof.Machine

/-- Where the block compressor's sequencer stands. `idle`: no compression is in progress; every state between commands
has it. `load`: a full buffer is about to be decoded (R141, R142). `step t`: step operation `t` is next (R90, R150).
`fold`: all 48 are done and the feed-forward, the counter and the clear remain (R155 to R157). The phases around the
index are the model's own names: log entry 2. -/
inductive Seq where
  | idle
  | load
  | step (t : StepIndex)
  | fold
  deriving DecidableEq, Repr

/-- The status of a response (30_encoding.md R87, 60_exceptions.md R200). Code 3 is never produced. -/
inductive Status where
  | ok
  | invalidArgument
  | outOfRange
  deriving DecidableEq, Repr

/-- One response (30_encoding.md R87). -/
structure Response where
  status : Status
  data : Data
  deriving DecidableEq, Repr

/-- One action of the host: a command word presented on the command port, with the bytes on the source channel (R80),
or an assertion of the reset input `rst` (70_reset_and_hazards.md R230). With `sp = 0` in the word there is no source
and the bytes are not looked at (R83). -/
inductive Input where
  | command (w : CmdWord) (src : List Byte)
  | rst
  deriving DecidableEq, Repr

/-- The state of one instance. -/
structure State where
  /-- `acc[0..3]`, the accumulator (R21). -/
  acc : Vector Word 4
  /-- `buf[0..63]`, the buffer (R23). -/
  buf : Vector Byte 64
  /-- `bufLen`, 7 bits (R24). -/
  bufLen : BitVec 7
  /-- `cnt`, the byte counter, 64 bits (R25). -/
  cnt : Count
  /-- `X[0..15]`, the message words of the compression in progress (R31, R141); zero between compressions: log entry 1. -/
  x : Vector Word 16
  /-- `v[0..3]`, the working variables `A, B, C, D` (R31, R142); zero between compressions: log entry 1. -/
  v : Vector Word 4
  /-- The sequencer, with the step index `t` (R31, R90). -/
  seq : Seq
  /-- The source channel: the bytes attached to the command in progress (20_memory.md R50), empty between commands (R65). -/
  src : List Byte
  /-- What the host does next, oldest first. The model's own field: log entry 4. -/
  inputs : List Input
  /-- The responses delivered to the host, oldest first. The model's own field: log entry 5. -/
  responses : List Response
  deriving DecidableEq, Repr

/-- Why a step stops with a fault. Neither failure of the spec is here: `InvalidArgument` and `OutOfRange` are
responses (60_exceptions.md R204). -/
inductive Fault where
  /-- Raised by every meaning that absorbs at least one byte when `bufLen` is 64 or more: outside the precondition of
  `Absorb` (41_update_buffering.md R120), a value no state between commands has (10_state.md R24, R26). Safe: the model
  stops where the spec gives no effect. Log entry 8. -/
  | bufferLengthOutOfRange
  deriving DecidableEq, Repr

/-- Why a step refuses. -/
inductive Refusal where
  /-- Raised by an arm of `exec` whose instruction has no meaning yet; no arm does. Safe. -/
  | notModelled (mnemonic : String)
  /-- Raised by `step` where the sequencer's index is 48 to 63, which "never occur" (30_encoding.md R90). Safe: the spec
  gives no operation. Log entry 9. -/
  | noSuchStep (t : StepIndex)
  /-- Raised by `stepWith` where the source attached to a command that takes one is longer than the machine's `SRC_MAX`,
  which does not exist (20_memory.md R50, 92_eei_decisions.md D4). Safe: the model stops. Log entry 10. -/
  | sourceTooLarge
  deriving DecidableEq, Repr

/-- What a step or a meaning answers. -/
abbrev Answer := Host.Outcome State Fault Refusal

/-- The buffer cleared to zero (10_state.md R23, R33). -/
def zeroBuf : Vector Byte 64 := Vector.replicate 64 0#8

/-- The message words when no compression is in progress: DESIGN CHOICE, log entry 1. -/
def zeroWords : Vector Word 16 := Vector.replicate 16 0#32

/-- The working variables when no compression is in progress: DESIGN CHOICE, log entry 1. -/
def zeroWork : Vector Word 4 := Vector.replicate 4 0#32

/-- The machine right after hardware reset (10_state.md R33, 70_reset_and_hazards.md R230): the architectural state has
its reset values, no compression and no command is in progress, and the host has presented nothing and received
nothing. -/
def State.reset : State where
  acc := iv
  buf := zeroBuf
  bufLen := 0#7
  cnt := 0#64
  x := zeroWords
  v := zeroWork
  seq := .idle
  src := []
  inputs := []
  responses := []

end Sys2Proof.Machine
end

