-- ==== Sys2Proof/Machine/Ops.lean ====
section
/-! DEFINITION. The named operations over the state that the meanings share: producing a response, raising a failure
(the engine's only kind of exception), `ResetState`, byte order, and presenting and retiring a command. There is no
program counter and no return from a failure (10_state.md R28, 60_exceptions.md R206). -/

namespace Sys2Proof.Machine

/-- The 2-bit status code on the response port (60_exceptions.md R200). -/
def Status.code : Status → BitVec 2
  | .ok => 0
  | .invalidArgument => 1
  | .outOfRange => 2

/-- `respond(status, data)` of 30_encoding.md R87: the response joins those delivered, after all state changes. -/
def State.respond (st : Status) (d : Data) (s : State) : State :=
  { s with responses := s.responses ++ [⟨st, d⟩] }

/-- A command that succeeds with no result: status OK, data all zero (R87). -/
def done (s : State) : Answer := .next (s.respond .ok 0)

/-- Raising a failure, the one exception operation (60_exceptions.md R204): the command ends with `respond(code, 0)` and
every piece of state has the value it had when the command was accepted. -/
def raise (st : Status) (s : State) : Answer := .next (s.respond st 0)

/-- `ResetState()` of 40_contract_commands.md R111: the four architectural items to their reset values. -/
def State.resetState (s : State) : State :=
  { s with acc := iv, buf := zeroBuf, bufLen := 0, cnt := 0 }

/-- Assertion of `rst` between commands (70_reset_and_hazards.md R230, R232): `ResetState()` and no response. -/
def State.hardwareReset (s : State) : State := s.resetState

/-- `le32enc` of R7 and 20_memory.md R52: the four bytes of a word, least significant first. -/
def le32enc (w : Word) : List Byte :=
  [w.extractLsb' 0 8, w.extractLsb' 8 8, w.extractLsb' 16 8, w.extractLsb' 24 8]

/-- `le32dec` of R7 and 20_memory.md R51: the word of four bytes, the first least significant. -/
def le32dec (b0 b1 b2 b3 : Byte) : Word := b3 ++ b2 ++ b1 ++ b0

/-- The host presents a command (R80): the command leaves the host's list and the source's bytes stand on the channel. -/
def State.attach (src : List Byte) (rest : List Input) (s : State) : State :=
  { s with inputs := rest, src := src }

/-- The next action of the host is taken off its list. -/
def State.withInputs (rest : List Input) (s : State) : State := { s with inputs := rest }

/-- After the response the engine keeps no reference to the source (20_memory.md R65). -/
def State.detach (s : State) : State := { s with src := [] }

/-- Retiring a command: the source is detached from the state it answers; a stop stays a stop. -/
def retire : Answer → Answer
  | .next s => .next s.detach
  | .fault f => .fault f
  | .refused r => .refused r

end Sys2Proof.Machine
end

