-- ==== Sys2Proof/Machine/Contract.lean ====
section
/-! DEFINITION. The contract's simple commands, `LENGTH` and `RESET` (40_contract_commands.md). -/

namespace Sys2Proof.Machine

/-- `LENGTH` (R110): respond with the digest length in bits; reads and writes no state. -/
def execLength (s : State) : Answer := .next (s.respond .ok (BitVec.ofNat 128 Config.digestBits))

/-- `RESET` (R111): `ResetState()`, then respond. -/
def execReset (s : State) : Answer := done s.resetState

end Sys2Proof.Machine
end

