-- ==== Sys2Proof/Machine/Flags.lean ====
section
/-! DEFINITION. The engine has no flags and no condition codes (10_state.md R29): the outcome of a command is its
response status. What this file holds is the one place where a status is computed, `Validate`. -/

namespace Sys2Proof.Machine

/-- `Validate(sp, src_size, offset, length)` of 41_update_buffering.md R122, the tests in its order, on unbounded
integers (R202, D5, D6, D8). `ok` means that validation passes. -/
def validate (sp : Bool) (srcSize : Nat) (offset len : Int) : Status :=
  if sp = false then .invalidArgument
  else if offset < 0 then .outOfRange
  else if len < 0 then .outOfRange
  else if offset + len > (srcSize : Int) then .outOfRange
  else .ok

/-- The check of the whole-source commands: only the first test of `Validate` applies (R122, R124, R189). -/
def validateAll (sp : Bool) : Status := if sp = false then .invalidArgument else .ok

end Sys2Proof.Machine
end

