-- ==== Sys2Proof/Machine/Operands.lean ====
section
/-! DEFINITION. The operands a command takes from the source channel (20_memory.md R50, R56): the whole source, or the
range that validation has passed. The fields of the command word are read in Decode.lean. -/

namespace Sys2Proof.Machine

/-- `src_size`: the number of bytes of the attached source (30_encoding.md R83). -/
def State.srcSize (s : State) : Nat := s.src.length

/-- The bytes `SrcRead(0), ..., SrcRead(src_size - 1)` of the whole-source commands (R124, R189). -/
def State.wholeSource (s : State) : List Byte := s.src

/-- The bytes `SrcRead(offset), ..., SrcRead(offset + length - 1)`, ascending (41_update_buffering.md R123). It is used
only after validation has passed, so both integers are non-negative and every index is in bounds (R205). -/
def State.sourceRange (offset len : Int) (s : State) : List Byte := (s.src.drop offset.toNat).take len.toNat

/-- Whether a source is attached to the command: it is one of the four that take one, and its `sp` bit is 1
(20_memory.md R50, 30_encoding.md R83, R84). -/
def takesSource : Instr → Bool
  | .updateAll sp => sp
  | .updateRange sp _ _ => sp
  | .digestAll sp => sp
  | .digestRange sp _ _ => sp
  | _ => false

/-- Whether the source on the channel exists for the command: a source a command takes has at most `SRC_MAX` bytes
(20_memory.md R50, D4); for a command that takes none the limit says nothing. -/
def sourceFits (srcMax : Nat) (i : Instr) (src : List Byte) : Bool := !takesSource i || decide (src.length ≤ srcMax)

end Sys2Proof.Machine
end

