-- ==== Sys2Proof/Machine/Compress.lean ====
section
/-! DEFINITION. The block compressor (42_compression.md): the round operators, the three kinds of round operation, the
schedule of 48 steps, `Compress`; and `Absorb` (41_update_buffering.md R120), the one path by which bytes enter. -/

namespace Sys2Proof.Machine

/-- `rotl32(x, n)` for `1 <= n <= 31` (00_scope.md R7, 42_compression.md R146). -/
def rotl32 (p : Word) (n : Nat) : Word := or32 (p <<< n) (p >>> (32 - n))

/-- `F`, the round-1 mixing function (R143). -/
def mixF (p q r : Word) : Word := or32 (and32 p q) (and32 (not32 p) r)

/-- `G`, the round-2 mixing function (R144). -/
def mixG (p q r : Word) : Word := or32 (or32 (and32 p q) (and32 p r)) (and32 q r)

/-- `H`, the round-3 mixing function (R145). -/
def mixH (p q r : Word) : Word := xor32 (xor32 p q) r

/-- `v[a] <- w`: the one write of a round operation. -/
def State.setWork (a : Fin 4) (w : Word) (s : State) : State := { s with v := s.v.set a w }

/-- `Op1(a, b, c, d, k, n)` (R147). -/
def op1 (a b c d : Fin 4) (k : Fin 16) (n : Nat) (s : State) : State :=
  s.setWork a (rotl32 (add32 (add32 s.v[a] (mixF s.v[b] s.v[c] s.v[d])) s.x[k]) n)

/-- `Op2(a, b, c, d, k, n)` (R148). -/
def op2 (a b c d : Fin 4) (k : Fin 16) (n : Nat) (s : State) : State :=
  s.setWork a (rotl32 (add32 (add32 (add32 s.v[a] (mixG s.v[b] s.v[c] s.v[d])) s.x[k]) romT2) n)

/-- `Op3(a, b, c, d, k, n)` (R149). -/
def op3 (a b c d : Fin 4) (k : Fin 16) (n : Nat) (s : State) : State :=
  s.setWork a (rotl32 (add32 (add32 (add32 s.v[a] (mixH s.v[b] s.v[c] s.v[d])) s.x[k]) romT3) n)

/-- The round of a step index: `(t div 16) + 1` (R90, R150). -/
def roundOf (t : Nat) : Round :=
  match t / 16 with
  | 0 => .r1
  | 1 => .r2
  | _ => .r3

/-- The kind of operation of a round (R150). -/
def roundOp : Round → Fin 4 → Fin 4 → Fin 4 → Fin 4 → Fin 16 → Nat → State → State
  | .r1 => op1
  | .r2 => op2
  | .r3 => op3

/-- `Step(t)` by the rule R150, with the ROM tables of R151 and R152. -/
def stepOp (t : Nat) (s : State) : State :=
  let r := roundOf t
  let j : Fin 16 := Fin.ofNat 16 t
  let q : Fin 4 := Fin.ofNat 4 t
  let a : Fin 4 := Fin.ofNat 4 (4 - q.val)
  roundOp r a (a + 1) (a + 2) (a + 3) (romK r)[j] (romS r)[q] s

/-- The sequencer after step operation `t`: the next index, and after the last one the end of the compression (R140). -/
def seqAfter (t : Nat) : Seq := if t = 47 then .fold else .step (BitVec.ofNat 6 (t + 1))

/-- The sequencer moves on past step operation `t`. -/
def State.advance (t : Nat) (s : State) : State := { s with seq := seqAfter t }

/-- `BufRead32(k)`: four bytes of the buffer as a little-endian word (R8, R141). -/
def State.bufRead32 (k : Fin 16) (s : State) : Word :=
  le32dec s.buf[4 * k.val] s.buf[4 * k.val + 1] s.buf[4 * k.val + 2] s.buf[4 * k.val + 3]

/-- The decode of the buffer into the 16 message words (R141). -/
def State.blockWords (s : State) : Vector Word 16 :=
  #v[s.bufRead32 0, s.bufRead32 1, s.bufRead32 2, s.bufRead32 3,
     s.bufRead32 4, s.bufRead32 5, s.bufRead32 6, s.bufRead32 7,
     s.bufRead32 8, s.bufRead32 9, s.bufRead32 10, s.bufRead32 11,
     s.bufRead32 12, s.bufRead32 13, s.bufRead32 14, s.bufRead32 15]

/-- The beginning of a compression: `X` is decoded, `v` copied from `acc` (R141, R142), and step 0 is next. -/
def State.loadBlock (s : State) : State :=
  { s with x := s.blockWords, v := s.acc, seq := .step 0 }

/-- The feed-forward sums (R155). -/
def State.feedForward (s : State) : Vector Word 4 :=
  #v[add32 s.acc[0] s.v[0], add32 s.acc[1] s.v[1], add32 s.acc[2] s.v[2], add32 s.acc[3] s.v[3]]

/-- The end of a compression: feed-forward, counter, buffer cleared (R155, R156, R157). The transients end with it and
are zero again (R31; log entry 1). -/
def State.foldBlock (s : State) : State :=
  { s with
    acc := s.feedForward
    buf := zeroBuf
    bufLen := 0
    cnt := add64 s.cnt 64
    x := zeroWords
    v := zeroWork
    seq := .idle }

/-- `Compress()` (R140): decode, 48 steps in order, and the end of the compression. -/
def State.compress (s : State) : State :=
  ((List.range Config.steps).foldl (fun u t => stepOp t u) s.loadBlock).foldBlock

/-- `buf[bufLen] <- b; bufLen <- bufLen + 1` (R120). A write outside the 64 bytes changes nothing, and `absorbAll` never
asks for one. -/
def State.pushByte (b : Byte) (s : State) : State :=
  { s with buf := s.buf.setIfInBounds s.bufLen.toNat b, bufLen := s.bufLen + 1 }

/-- `Absorb(b)` (41_update_buffering.md R120): store the byte, and compress as soon as the buffer is full. -/
def absorb (s : State) (b : Byte) : State :=
  if (s.pushByte b).bufLen = 64 then (s.pushByte b).compress else s.pushByte b

/-- `Absorb` for each byte of a list in order. `Absorb` has the precondition `bufLen <= 63` (R120), which it restores:
where at least one byte is to be absorbed and it does not hold, there is no answer. -/
def absorbAll (bs : List Byte) (s : State) : Option State :=
  if bs = [] ∨ s.bufLen < 64 then some (bs.foldl absorb s) else none

end Sys2Proof.Machine
end

