-- ==== Sys2Proof/Machine/Padding.lean ====
section
/-! DEFINITION. The padding and length-encoding unit, the serialiser, and `Finalize` (43_finalize_padding.md). -/

namespace Sys2Proof.Machine

/-- `bitLen` (R180): `(cnt + bufLen) * 8`, both operations mod 2^64, latched before any padding is absorbed. -/
def State.bitLen (s : State) : Count := mul64 (add64 s.cnt (s.bufLen.setWidth 64)) 8

/-- `padLen` (R181) for a buffer of `n` bytes: `64 - n`, and one block more if that is less than 9. -/
def padLenOf (n : Nat) : Nat :=
  if Config.blockSize - n < Config.padMin then Config.blockSize - n + Config.blockSize else Config.blockSize - n

/-- `padLen` of the state (R181). -/
def State.padLen (s : State) : Nat := padLenOf s.bufLen.toNat

/-- The bytes of the bit length: two little-endian words, the low word first (R183). -/
def lengthBytes (n : Count) : List Byte := le32enc (n.extractLsb' 0 32) ++ le32enc (n.extractLsb' 32 32)

/-- `pad[0..padLen)` (R182): the marker, `padLen - 9` zero bytes, the length bytes. -/
def State.padding (s : State) : List Byte :=
  Config.padMarker :: (List.replicate (s.padLen - 9) 0#8 ++ lengthBytes s.bitLen)

/-- The serialiser (R186): the four accumulator words in index order, each little-endian. -/
def serialise (acc : Vector Word 4) : List Byte :=
  le32enc acc[0] ++ le32enc acc[1] ++ le32enc acc[2] ++ le32enc acc[3]

/-- The result bytes in the response: `out[i]` in bits `8i + 7` down to `8i` (30_encoding.md R87, D18). -/
def packBytes : List Byte → Data
  | [] => 0
  | b :: bs => (packBytes bs) <<< 8 ||| b.setWidth 128

/-- `Finalize()` (R187): absorb the padding built from the state as it stands, serialise, reset, respond. -/
def finalize (s : State) : Answer :=
  match absorbAll s.padding s with
  | some u => .next (u.resetState.respond .ok (packBytes (serialise u.acc)))
  | none => .fault .bufferLengthOutOfRange

end Sys2Proof.Machine
end

