-- ==== Sys2Proof/Machine/Digest.lean ====
section
/-! DEFINITION. The finalizing commands (43_finalize_padding.md): `DIGEST`, `DIGEST_ALL`, `DIGEST_RANGE`. -/

namespace Sys2Proof.Machine

/-- Absorb the bytes, then `Finalize()`: one command with one response (R189, R190). -/
def absorbAndFinalize (bs : List Byte) (s : State) : Answer :=
  match absorbAll bs s with
  | some u => finalize u
  | none => .fault .bufferLengthOutOfRange

/-- `DIGEST` (R188). -/
def execDigest (s : State) : Answer := finalize s

/-- `DIGEST_ALL src` (R189). -/
def execDigestAll (sp : Bool) (s : State) : Answer :=
  match validateAll sp with
  | .ok => absorbAndFinalize s.wholeSource s
  | st => raise st s

/-- `DIGEST_RANGE src, offset, length` (R190). -/
def execDigestRange (sp : Bool) (offset len : Int) (s : State) : Answer :=
  match validate sp s.srcSize offset len with
  | .ok => absorbAndFinalize (s.sourceRange offset len) s
  | st => raise st s

end Sys2Proof.Machine
end

