-- ==== Sys2Proof/Machine/Rounds.lean ====
section
/-! DEFINITION. The meanings of the 48 step operations, one per row of the table of 42_compression.md R154, each written
out from its row: the round's operation on the row's `a, b, c, d, k, s`, and the sequencer moves on. That the rows are
what the rule R150 computes is an obligation, not an assumption of this file: `Compress` runs `stepOp`, the rule. -/

namespace Sys2Proof.Machine

/-- `STEP00`: round 1, `A` from `B, C, D`, word 0, rotation 3 (R147, R154). -/
def execStep00 (s : State) : Answer := .next ((op1 0 1 2 3 0 3 s).advance 0)

/-- `STEP01`: round 1, `D` from `A, B, C`, word 1, rotation 7 (R147, R154). -/
def execStep01 (s : State) : Answer := .next ((op1 3 0 1 2 1 7 s).advance 1)

/-- `STEP02`: round 1, `C` from `D, A, B`, word 2, rotation 11 (R147, R154). -/
def execStep02 (s : State) : Answer := .next ((op1 2 3 0 1 2 11 s).advance 2)

/-- `STEP03`: round 1, `B` from `C, D, A`, word 3, rotation 19 (R147, R154). -/
def execStep03 (s : State) : Answer := .next ((op1 1 2 3 0 3 19 s).advance 3)

/-- `STEP04`: round 1, `A` from `B, C, D`, word 4, rotation 3 (R147, R154). -/
def execStep04 (s : State) : Answer := .next ((op1 0 1 2 3 4 3 s).advance 4)

/-- `STEP05`: round 1, `D` from `A, B, C`, word 5, rotation 7 (R147, R154). -/
def execStep05 (s : State) : Answer := .next ((op1 3 0 1 2 5 7 s).advance 5)

/-- `STEP06`: round 1, `C` from `D, A, B`, word 6, rotation 11 (R147, R154). -/
def execStep06 (s : State) : Answer := .next ((op1 2 3 0 1 6 11 s).advance 6)

/-- `STEP07`: round 1, `B` from `C, D, A`, word 7, rotation 19 (R147, R154). -/
def execStep07 (s : State) : Answer := .next ((op1 1 2 3 0 7 19 s).advance 7)

/-- `STEP08`: round 1, `A` from `B, C, D`, word 8, rotation 3 (R147, R154). -/
def execStep08 (s : State) : Answer := .next ((op1 0 1 2 3 8 3 s).advance 8)

/-- `STEP09`: round 1, `D` from `A, B, C`, word 9, rotation 7 (R147, R154). -/
def execStep09 (s : State) : Answer := .next ((op1 3 0 1 2 9 7 s).advance 9)

/-- `STEP10`: round 1, `C` from `D, A, B`, word 10, rotation 11 (R147, R154). -/
def execStep10 (s : State) : Answer := .next ((op1 2 3 0 1 10 11 s).advance 10)

/-- `STEP11`: round 1, `B` from `C, D, A`, word 11, rotation 19 (R147, R154). -/
def execStep11 (s : State) : Answer := .next ((op1 1 2 3 0 11 19 s).advance 11)

/-- `STEP12`: round 1, `A` from `B, C, D`, word 12, rotation 3 (R147, R154). -/
def execStep12 (s : State) : Answer := .next ((op1 0 1 2 3 12 3 s).advance 12)

/-- `STEP13`: round 1, `D` from `A, B, C`, word 13, rotation 7 (R147, R154). -/
def execStep13 (s : State) : Answer := .next ((op1 3 0 1 2 13 7 s).advance 13)

/-- `STEP14`: round 1, `C` from `D, A, B`, word 14, rotation 11 (R147, R154). -/
def execStep14 (s : State) : Answer := .next ((op1 2 3 0 1 14 11 s).advance 14)

/-- `STEP15`: round 1, `B` from `C, D, A`, word 15, rotation 19 (R147, R154). -/
def execStep15 (s : State) : Answer := .next ((op1 1 2 3 0 15 19 s).advance 15)

/-- `STEP16`: round 2, `A` from `B, C, D`, word 0, rotation 3 (R148, R154). -/
def execStep16 (s : State) : Answer := .next ((op2 0 1 2 3 0 3 s).advance 16)

/-- `STEP17`: round 2, `D` from `A, B, C`, word 4, rotation 5 (R148, R154). -/
def execStep17 (s : State) : Answer := .next ((op2 3 0 1 2 4 5 s).advance 17)

/-- `STEP18`: round 2, `C` from `D, A, B`, word 8, rotation 9 (R148, R154). -/
def execStep18 (s : State) : Answer := .next ((op2 2 3 0 1 8 9 s).advance 18)

/-- `STEP19`: round 2, `B` from `C, D, A`, word 12, rotation 13 (R148, R154). -/
def execStep19 (s : State) : Answer := .next ((op2 1 2 3 0 12 13 s).advance 19)

/-- `STEP20`: round 2, `A` from `B, C, D`, word 1, rotation 3 (R148, R154). -/
def execStep20 (s : State) : Answer := .next ((op2 0 1 2 3 1 3 s).advance 20)

/-- `STEP21`: round 2, `D` from `A, B, C`, word 5, rotation 5 (R148, R154). -/
def execStep21 (s : State) : Answer := .next ((op2 3 0 1 2 5 5 s).advance 21)

/-- `STEP22`: round 2, `C` from `D, A, B`, word 9, rotation 9 (R148, R154). -/
def execStep22 (s : State) : Answer := .next ((op2 2 3 0 1 9 9 s).advance 22)

/-- `STEP23`: round 2, `B` from `C, D, A`, word 13, rotation 13 (R148, R154). -/
def execStep23 (s : State) : Answer := .next ((op2 1 2 3 0 13 13 s).advance 23)

/-- `STEP24`: round 2, `A` from `B, C, D`, word 2, rotation 3 (R148, R154). -/
def execStep24 (s : State) : Answer := .next ((op2 0 1 2 3 2 3 s).advance 24)

/-- `STEP25`: round 2, `D` from `A, B, C`, word 6, rotation 5 (R148, R154). -/
def execStep25 (s : State) : Answer := .next ((op2 3 0 1 2 6 5 s).advance 25)

/-- `STEP26`: round 2, `C` from `D, A, B`, word 10, rotation 9 (R148, R154). -/
def execStep26 (s : State) : Answer := .next ((op2 2 3 0 1 10 9 s).advance 26)

/-- `STEP27`: round 2, `B` from `C, D, A`, word 14, rotation 13 (R148, R154). -/
def execStep27 (s : State) : Answer := .next ((op2 1 2 3 0 14 13 s).advance 27)

/-- `STEP28`: round 2, `A` from `B, C, D`, word 3, rotation 3 (R148, R154). -/
def execStep28 (s : State) : Answer := .next ((op2 0 1 2 3 3 3 s).advance 28)

/-- `STEP29`: round 2, `D` from `A, B, C`, word 7, rotation 5 (R148, R154). -/
def execStep29 (s : State) : Answer := .next ((op2 3 0 1 2 7 5 s).advance 29)

/-- `STEP30`: round 2, `C` from `D, A, B`, word 11, rotation 9 (R148, R154). -/
def execStep30 (s : State) : Answer := .next ((op2 2 3 0 1 11 9 s).advance 30)

/-- `STEP31`: round 2, `B` from `C, D, A`, word 15, rotation 13 (R148, R154). -/
def execStep31 (s : State) : Answer := .next ((op2 1 2 3 0 15 13 s).advance 31)

/-- `STEP32`: round 3, `A` from `B, C, D`, word 0, rotation 3 (R149, R154). -/
def execStep32 (s : State) : Answer := .next ((op3 0 1 2 3 0 3 s).advance 32)

/-- `STEP33`: round 3, `D` from `A, B, C`, word 8, rotation 9 (R149, R154). -/
def execStep33 (s : State) : Answer := .next ((op3 3 0 1 2 8 9 s).advance 33)

/-- `STEP34`: round 3, `C` from `D, A, B`, word 4, rotation 11 (R149, R154). -/
def execStep34 (s : State) : Answer := .next ((op3 2 3 0 1 4 11 s).advance 34)

/-- `STEP35`: round 3, `B` from `C, D, A`, word 12, rotation 15 (R149, R154). -/
def execStep35 (s : State) : Answer := .next ((op3 1 2 3 0 12 15 s).advance 35)

/-- `STEP36`: round 3, `A` from `B, C, D`, word 2, rotation 3 (R149, R154). -/
def execStep36 (s : State) : Answer := .next ((op3 0 1 2 3 2 3 s).advance 36)

/-- `STEP37`: round 3, `D` from `A, B, C`, word 10, rotation 9 (R149, R154). -/
def execStep37 (s : State) : Answer := .next ((op3 3 0 1 2 10 9 s).advance 37)

/-- `STEP38`: round 3, `C` from `D, A, B`, word 6, rotation 11 (R149, R154). -/
def execStep38 (s : State) : Answer := .next ((op3 2 3 0 1 6 11 s).advance 38)

/-- `STEP39`: round 3, `B` from `C, D, A`, word 14, rotation 15 (R149, R154). -/
def execStep39 (s : State) : Answer := .next ((op3 1 2 3 0 14 15 s).advance 39)

/-- `STEP40`: round 3, `A` from `B, C, D`, word 1, rotation 3 (R149, R154). -/
def execStep40 (s : State) : Answer := .next ((op3 0 1 2 3 1 3 s).advance 40)

/-- `STEP41`: round 3, `D` from `A, B, C`, word 9, rotation 9 (R149, R154). -/
def execStep41 (s : State) : Answer := .next ((op3 3 0 1 2 9 9 s).advance 41)

/-- `STEP42`: round 3, `C` from `D, A, B`, word 5, rotation 11 (R149, R154). -/
def execStep42 (s : State) : Answer := .next ((op3 2 3 0 1 5 11 s).advance 42)

/-- `STEP43`: round 3, `B` from `C, D, A`, word 13, rotation 15 (R149, R154). -/
def execStep43 (s : State) : Answer := .next ((op3 1 2 3 0 13 15 s).advance 43)

/-- `STEP44`: round 3, `A` from `B, C, D`, word 3, rotation 3 (R149, R154). -/
def execStep44 (s : State) : Answer := .next ((op3 0 1 2 3 3 3 s).advance 44)

/-- `STEP45`: round 3, `D` from `A, B, C`, word 11, rotation 9 (R149, R154). -/
def execStep45 (s : State) : Answer := .next ((op3 3 0 1 2 11 9 s).advance 45)

/-- `STEP46`: round 3, `C` from `D, A, B`, word 7, rotation 11 (R149, R154). -/
def execStep46 (s : State) : Answer := .next ((op3 2 3 0 1 7 11 s).advance 46)

/-- `STEP47`: round 3, `B` from `C, D, A`, word 15, rotation 15 (R149, R154). -/
def execStep47 (s : State) : Answer := .next ((op3 1 2 3 0 15 15 s).advance 47)

end Sys2Proof.Machine
end

