-- ==== Sys2Proof/Machine/Update.lean ====
section
/-! DEFINITION. The update commands (41_update_buffering.md): each absorbs some bytes and responds. -/

namespace Sys2Proof.Machine

/-- Absorb the bytes and respond OK: what every update command does once validation has passed (R121, R123, R124). -/
def absorbAndRespond (bs : List Byte) (s : State) : Answer :=
  match absorbAll bs s with
  | some u => done u
  | none => .fault .bufferLengthOutOfRange

/-- `UPDATE_BYTE b` (R121). -/
def execUpdateByte (data : Byte) (s : State) : Answer := absorbAndRespond [data] s

/-- `UPDATE_ALL src` (R124). -/
def execUpdateAll (sp : Bool) (s : State) : Answer :=
  match validateAll sp with
  | .ok => absorbAndRespond s.wholeSource s
  | st => raise st s

/-- `UPDATE_RANGE src, offset, length` (R123). -/
def execUpdateRange (sp : Bool) (offset len : Int) (s : State) : Answer :=
  match validate sp s.srcSize offset len with
  | .ok => absorbAndRespond (s.sourceRange offset len) s
  | st => raise st s

end Sys2Proof.Machine
end

