-- ==== Sys2Proof/Machine/Dispatch.lean ====
section
/-! DEFINITION. The dispatch: one arm per instruction, each one direct call of its meaning. -/

namespace Sys2Proof.Machine

/-- What an instruction does. -/
def exec (i : Instr) (s : State) : Host.Outcome State Fault Refusal :=
  match i with
  | .length => Sys2Proof.Machine.execLength s
  | .reset => Sys2Proof.Machine.execReset s
  | .updateByte data => Sys2Proof.Machine.execUpdateByte data s
  | .updateAll sp => Sys2Proof.Machine.execUpdateAll sp s
  | .updateRange sp offset len => Sys2Proof.Machine.execUpdateRange sp offset len s
  | .digestAll sp => Sys2Proof.Machine.execDigestAll sp s
  | .digestRange sp offset len => Sys2Proof.Machine.execDigestRange sp offset len s
  | .digest => Sys2Proof.Machine.execDigest s
  | .step00 => Sys2Proof.Machine.execStep00 s
  | .step01 => Sys2Proof.Machine.execStep01 s
  | .step02 => Sys2Proof.Machine.execStep02 s
  | .step03 => Sys2Proof.Machine.execStep03 s
  | .step04 => Sys2Proof.Machine.execStep04 s
  | .step05 => Sys2Proof.Machine.execStep05 s
  | .step06 => Sys2Proof.Machine.execStep06 s
  | .step07 => Sys2Proof.Machine.execStep07 s
  | .step08 => Sys2Proof.Machine.execStep08 s
  | .step09 => Sys2Proof.Machine.execStep09 s
  | .step10 => Sys2Proof.Machine.execStep10 s
  | .step11 => Sys2Proof.Machine.execStep11 s
  | .step12 => Sys2Proof.Machine.execStep12 s
  | .step13 => Sys2Proof.Machine.execStep13 s
  | .step14 => Sys2Proof.Machine.execStep14 s
  | .step15 => Sys2Proof.Machine.execStep15 s
  | .step16 => Sys2Proof.Machine.execStep16 s
  | .step17 => Sys2Proof.Machine.execStep17 s
  | .step18 => Sys2Proof.Machine.execStep18 s
  | .step19 => Sys2Proof.Machine.execStep19 s
  | .step20 => Sys2Proof.Machine.execStep20 s
  | .step21 => Sys2Proof.Machine.execStep21 s
  | .step22 => Sys2Proof.Machine.execStep22 s
  | .step23 => Sys2Proof.Machine.execStep23 s
  | .step24 => Sys2Proof.Machine.execStep24 s
  | .step25 => Sys2Proof.Machine.execStep25 s
  | .step26 => Sys2Proof.Machine.execStep26 s
  | .step27 => Sys2Proof.Machine.execStep27 s
  | .step28 => Sys2Proof.Machine.execStep28 s
  | .step29 => Sys2Proof.Machine.execStep29 s
  | .step30 => Sys2Proof.Machine.execStep30 s
  | .step31 => Sys2Proof.Machine.execStep31 s
  | .step32 => Sys2Proof.Machine.execStep32 s
  | .step33 => Sys2Proof.Machine.execStep33 s
  | .step34 => Sys2Proof.Machine.execStep34 s
  | .step35 => Sys2Proof.Machine.execStep35 s
  | .step36 => Sys2Proof.Machine.execStep36 s
  | .step37 => Sys2Proof.Machine.execStep37 s
  | .step38 => Sys2Proof.Machine.execStep38 s
  | .step39 => Sys2Proof.Machine.execStep39 s
  | .step40 => Sys2Proof.Machine.execStep40 s
  | .step41 => Sys2Proof.Machine.execStep41 s
  | .step42 => Sys2Proof.Machine.execStep42 s
  | .step43 => Sys2Proof.Machine.execStep43 s
  | .step44 => Sys2Proof.Machine.execStep44 s
  | .step45 => Sys2Proof.Machine.execStep45 s
  | .step46 => Sys2Proof.Machine.execStep46 s
  | .step47 => Sys2Proof.Machine.execStep47 s

end Sys2Proof.Machine
end

