-- ==== Sys2Proof/Machine/Fetch.lean ====
section
/-! DEFINITION. How the engine comes by its next instruction and what is done around it: a command the host presents is
decoded, executed and retired; a step index is decoded and executed. `SRC_MAX` is an argument here, as 00_scope.md R5
asks. -/

namespace Sys2Proof.Machine

/-- Decode and execute. -/
def runEncoded (e : Encoded) (s : State) : Answer :=
  match decode e with
  | .ok i => exec i s
  | .error (.noSuchStep t) => .refused (.noSuchStep t)

/-- The host's next action (between commands). With none, the engine holds its state (60_exceptions.md R214). A command
is presented with its source, executed and retired, whatever the channel holds if it takes no source; `rst` resets and
gives no response (70_reset_and_hazards.md R232). -/
def takeInput (srcMax : Nat) (s : State) : Answer :=
  match s.inputs with
  | [] => .next s
  | .rst :: rest => .next (s.withInputs rest).hardwareReset
  | .command w src :: rest =>
    if sourceFits srcMax (decodeCommand w) src then retire (runEncoded (.command w) (s.attach src rest))
    else .refused .sourceTooLarge

/-- One step of an instance whose `SRC_MAX` is the argument: a phase of a compression in progress, or the host's next
action. DESIGN CHOICE: the argument is any number. The spec leaves the limit OPEN without an upper bound (00_scope.md R5)
and says that a source index is below 2^31 (20_memory.md R50); with a limit above 2^31 the model admits larger indices
(log entry 17). -/
def stepWith (srcMax : Nat) (s : State) : Answer :=
  match s.seq with
  | .idle => takeInput srcMax s
  | .load => .next s.loadBlock
  | .step t => runEncoded (.step t) s
  | .fold => .next s.foldBlock

/-- Place an encoded instruction where `step` takes its next one: a command word at the head of the host's list with an
empty source on the channel and no compression in progress; a step index in the sequencer. -/
def State.place (e : Encoded) (s : State) : State :=
  match e with
  | .command w => { s with seq := .idle, inputs := .command w [] :: s.inputs }
  | .step t => { s with seq := .step t }

end Sys2Proof.Machine
end

