-- ==== Sys2Proof/Machine/Step.lean ====
section
/-! DEFINITION. One step of an instance. Between commands it is one whole transaction of the host (a command is atomic,
20_memory.md R55, 70_reset_and_hazards.md R239); inside a compression that is stepped through it is one operation of the
sequencer. How a program comes to run: log entry 4. -/

namespace Sys2Proof.Machine

/-- One step of an instance with the default `SRC_MAX` (00_scope.md R5; log entry 10): the form of a step that the host
fixes has no place for the parameter. -/
def step (s : State) : Host.Outcome State Fault Refusal := stepWith Config.srcMaxDefault s

/-- The state whose very next step runs the instruction of an opcode-table word (log entry 14). -/
def State.withFetchWord (s : State) (nbits w : Nat) : State := s.place (encodedOfTable nbits w)

end Sys2Proof.Machine
end

