-- ==== Sys2Proof/Machine/Platform.lean ====
section
/-! DEFINITION. The machine over its two open parameters (00_scope.md R5): one instance with any `SRC_MAX` as a
`Host.Core`, and a platform of several engine instances (10_state.md R36, 60_exceptions.md R212): `n` copies of the state
and one shared read-only ROM. `N_INSTANCES` is the parameter `n`, at least 1 (log entry 11). Which instance moves next is
the caller's choice: the spec orders nothing between instances (20_memory.md R60). -/

namespace Sys2Proof.Machine

/-- One instance with the given `SRC_MAX` (R5, D4), which may be any number (log entry 17). `Sys2Proof.core` is this at the default. -/
def coreWith (srcMax : Nat) : Host.Core :=
  { State := State, Fault := Fault, Refusal := Refusal, step := stepWith srcMax, reset := State.reset }

/-- `N_INSTANCES` engines, each with its own state; there is at least one (R5, R36). -/
structure Platform (n : Nat) where
  engines : Vector State n
  atLeastOne : 1 ≤ n
  deriving DecidableEq, Repr

/-- All instances start in the reset state (R212, 70_reset_and_hazards.md R230). -/
def Platform.reset (n : Nat) (h : 1 ≤ n) : Platform n := ⟨Vector.replicate n State.reset, h⟩

/-- One step of instance `i`; the others hold their state. -/
def Platform.stepAt {n : Nat} (srcMax : Nat) (i : Fin n) (p : Platform n) : Host.Outcome (Platform n) Fault Refusal :=
  match stepWith srcMax p.engines[i] with
  | .next s => .next { p with engines := p.engines.set i s }
  | .fault f => .fault f
  | .refused r => .refused r

end Sys2Proof.Machine
end

