-- ==== Sys2Proof/Machine/Reference.lean ====
section
/-! DEFINITION. The digest as a function of the message (43_finalize_padding.md R192, R193) and the compression as a
function of accumulator and block (42_compression.md R158), written on lists and numbers, apart from the machine: the
working variables rotate through the four parts instead of the parts through the variables (R150), word orders are the
closed forms of R151, byte order is by division (20_memory.md R51, R52). No meaning uses this file; the claims compare
the machine with it. -/

namespace Sys2Proof.Machine

/-- The four working variables by the part each plays in the next operation (R150). -/
structure Roles where
  a : Word
  b : Word
  c : Word
  d : Word
  deriving DecidableEq, Repr

/-- The mixing function of round `r + 1` (R143, R144, R145). -/
def refMix (r : Nat) (p q z : Word) : Word :=
  match r with
  | 0 => (p &&& q) ||| (~~~p &&& z)
  | 1 => (p &&& q) ||| (p &&& z) ||| (q &&& z)
  | _ => p ^^^ q ^^^ z

/-- The additive constant of round `r + 1` (R153). -/
def refConst (r : Nat) : Word :=
  match r with
  | 0 => 0x00000000#32
  | 1 => 0x5A827999#32
  | _ => 0x6ED9EBA1#32

/-- The message word that operation `j` of round `r + 1` uses: the closed forms of R151. -/
def refWordIndex (r j : Nat) : Nat :=
  match r with
  | 0 => j
  | 1 => 4 * (j % 4) + j / 4
  | _ => 8 * (j % 2) + 4 * (j / 2 % 2) + 2 * (j / 4 % 2) + j / 8

/-- The rotation amount of position `q` in round `r + 1` (R152). -/
def refRot (r q : Nat) : Nat :=
  match r with
  | 0 => [3, 7, 11, 19].getD q 0
  | 1 => [3, 5, 9, 13].getD q 0
  | _ => [3, 9, 11, 15].getD q 0

/-- One operation, after which the parts have moved on by one variable (R150). -/
def refStep (words : List Word) (p : Roles) (t : Nat) : Roles :=
  { a := p.d
    b := (p.a + refMix (t / 16) p.b p.c p.d + words.getD (refWordIndex (t / 16) (t % 16)) 0
            + refConst (t / 16)).rotateLeft (refRot (t / 16) (t % 4))
    c := p.b
    d := p.c }

/-- The 16 message words of a block (R141, 20_memory.md R51). -/
def refWords (block : List Byte) : List Word :=
  (List.range 16).map fun k =>
    BitVec.ofNat 32 ((block.getD (4 * k) 0).toNat + 2 ^ 8 * (block.getD (4 * k + 1) 0).toNat
      + 2 ^ 16 * (block.getD (4 * k + 2) 0).toNat + 2 ^ 24 * (block.getD (4 * k + 3) 0).toNat)

/-- The accumulator after compressing one block (R140, R155). -/
def refCompress (acc : Vector Word 4) (block : List Byte) : Vector Word 4 :=
  let p := (List.range 48).foldl (refStep (refWords block)) ⟨acc[0], acc[1], acc[2], acc[3]⟩
  #v[acc[0] + p.a, acc[1] + p.b, acc[2] + p.c, acc[3] + p.d]

/-- The accumulator after compressing, in order, the whole 64-byte blocks of a stream (R127, R192). -/
def refBlocks (acc : Vector Word 4) (m : List Byte) : Vector Word 4 :=
  (List.range (m.length / 64)).foldl (fun u q => refCompress u ((m.drop (64 * q)).take 64)) acc

/-- The 8-byte little-endian encoding of a number mod 2^64 (`le64` of R192, R193). -/
def refLe64 (n : Nat) : List Byte := (List.range 8).map fun i => BitVec.ofNat 8 (n / 256 ^ i)

/-- The padding of a stream of `n` bytes whose bit length is `bits`: the marker, the least number of zeros that makes the
total a multiple of 64, the length (R192). -/
def refPad (n bits : Nat) : List Byte :=
  0x80#8 :: (List.replicate ((64 - (n + 9) % 64) % 64) 0#8 ++ refLe64 bits)

/-- The 16 bytes of an accumulator: the words in index order, each little-endian (R186). -/
def refBytes (acc : Vector Word 4) : List Byte :=
  acc.toList.flatMap fun w => (List.range 4).map fun j => BitVec.ofNat 8 (w.toNat / 256 ^ j)

/-- The digest of a message (R192; with 2^61 bytes or more the length wraps, R193). -/
def refDigest (m : List Byte) : List Byte :=
  refBytes (refBlocks iv (m ++ refPad m.length (8 * m.length)))

/-- The 16 result bytes of a response's data: byte `i` in bits `8i + 7` down to `8i` (30_encoding.md R87). -/
def dataBytes (d : Data) : List Byte := (List.range 16).map fun i => d.extractLsb' (8 * i) 8

end Sys2Proof.Machine
end

