-- ==== Sys2Proof/Safety.lean ====
section
/-! DEFINITION. The terms in which claims are stated: the invariants of 10_state.md R26, the logical states of R27, and
what it means that a command absorbed some bytes (41_update_buffering.md R127) or finalized (43_finalize_padding.md R187). -/

namespace Sys2Proof.Machine

/-- `Idle(s)` (R27). -/
def State.Idle (s : State) : Prop := s.bufLen = 0 ∧ s.acc = iv ∧ s.cnt = 0

/-- `Accepting(s)` (R27). -/
def State.Accepting (s : State) : Prop := s.bufLen.toNat ≤ 63

/-- Buffer bytes at and beyond `bufLen` are zero (R26 item 4). -/
def State.TailZero (s : State) : Prop := ∀ i : Fin 64, s.bufLen.toNat ≤ i.val → s.buf[i] = 0#8

/-- The invariant of a run at every step. Between commands (`idle`) it is R26 items 1, 2 and 4, with the transients at
their resting values (log entry 1) and no source attached (20_memory.md R65); inside a compression the buffer is full
(42_compression.md R140) and the step index is one of the 48 (30_encoding.md R90). -/
structure State.Inv (s : State) : Prop where
  counter : s.cnt.toNat % 64 = 0
  tail : s.TailZero
  noSource : s.src = []
  between : s.seq = .idle → s.Accepting ∧ s.x = zeroWords ∧ s.v = zeroWork
  during : s.seq ≠ .idle → s.bufLen = 64
  index : ∀ t, s.seq = .step t → t.toNat < 48

/-- The four architectural items agree: all that survives from one command to the next (R20). -/
def State.SameArch (s t : State) : Prop := t.acc = s.acc ∧ t.buf = s.buf ∧ t.bufLen = s.bufLen ∧ t.cnt = s.cnt

/-- The four architectural items have their reset values (R33). -/
def State.AtReset (s : State) : Prop :=
  s.acc = #v[0x67452301#32, 0xEFCDAB89#32, 0x98BADCFE#32, 0x10325476#32] ∧
    s.buf = Vector.replicate 64 0#8 ∧ s.bufLen = 0 ∧ s.cnt = 0

/-- `buf[0..bufLen)`: the bytes received since the last block boundary (R23). -/
def State.pending (s : State) : List Byte := s.buf.toList.take s.bufLen.toNat

/-- `t` is `s` after absorbing the bytes `bs` (41_update_buffering.md R127), whatever was responded. -/
structure Absorbed (s : State) (bs : List Byte) (t : State) : Prop where
  bufLen : t.bufLen.toNat = (s.bufLen.toNat + bs.length) % 64
  cnt : t.cnt = s.cnt + BitVec.ofNat 64 (64 * ((s.bufLen.toNat + bs.length) / 64))
  acc : t.acc = refBlocks s.acc (s.pending ++ bs)
  pending : t.pending = (s.pending ++ bs).drop (64 * ((s.bufLen.toNat + bs.length) / 64))
  tail : ∀ i : Fin 64, t.bufLen.toNat ≤ i.val →
    t.buf[i] = if s.bufLen.toNat + bs.length < 64 then s.buf[i] else 0#8
  noBlock : s.bufLen.toNat + bs.length < 64 → t.seq = s.seq ∧ t.x = s.x ∧ t.v = s.v
  someBlock : 64 ≤ s.bufLen.toNat + bs.length → t.seq = .idle ∧ t.x = zeroWords ∧ t.v = zeroWork
  src : t.src = s.src
  inputs : t.inputs = s.inputs

/-- `t` is `s` after absorbing the bytes `bs` and finalizing (43_finalize_padding.md R187, R190): one response, OK, with
the digest bytes, and the architectural items at their reset values. -/
structure Digested (s : State) (bs : List Byte) (t : State) : Prop where
  response : ∃ d : Data, t.responses = s.responses ++ [⟨.ok, d⟩] ∧
    dataBytes d = refBytes (refBlocks s.acc (s.pending ++ bs ++
      refPad (s.bufLen.toNat + bs.length) (8 * (s.cnt.toNat + s.bufLen.toNat + bs.length))))
  reset : t.AtReset
  compressor : t.seq = .idle ∧ t.x = zeroWords ∧ t.v = zeroWork
  src : t.src = s.src
  inputs : t.inputs = s.inputs

/-- `s` after one more response and nothing else (30_encoding.md R87). -/
def State.plus (st : Status) (d : Data) (s : State) : State := { s with responses := s.responses ++ [⟨st, d⟩] }

/-- `s` after a step operation: one working variable and the sequencer (42_compression.md R150). -/
def State.worked (a : Fin 4) (w : Word) (q : Seq) (s : State) : State := { s with v := s.v.set a w, seq := q }

/-- The eight commands of the command port, against the step operations of the sequencer (30_encoding.md R82, R90). -/
def isCommand : Instr → Bool
  | .length => true
  | .reset => true
  | .updateByte _ => true
  | .updateAll _ => true
  | .updateRange _ _ _ => true
  | .digestAll _ => true
  | .digestRange _ _ _ => true
  | .digest => true
  | _ => false

/-- Commands executed one after another on one instance (20_memory.md R59). -/
def execList : List Instr → State → Answer
  | [], s => .next s
  | i :: is, s =>
    match exec i s with
    | .next t => execList is t
    | .fault f => .fault f
    | .refused r => .refused r

/-- The range operands pass `Validate` for a source of `size` bytes (60_exceptions.md R202). -/
def RangeValid (size : Nat) (offset len : Int) : Prop := 0 ≤ offset ∧ 0 ≤ len ∧ offset + len ≤ (size : Int)

end Sys2Proof.Machine
end

