-- ==== Sys2Proof/Certificates/Slice0/Obligations.lean ====
section
/-! DEFINITION. The statements for the provers, each from a numbered rule of spec/ or derived from several. Every statement
is about all states, those no run reaches included, unless a premise says otherwise. -/

open Sys2Proof Sys2Proof.Machine

/-- 30_encoding.md section 1 and 2, 42_compression.md R154: no bit of an encoding is dropped. -/
def Obligations.DecodeOfEncodeIsTheInstruction : Prop :=
  ∀ i : Instr, i.wf = true → decode (encode i) = .ok i

/-- R80, R82, R83, R85, R86: the opcode map and the operand fields on all 2^68 words. -/
def Obligations.EveryCommandWordDecodesByItsOpcode : Prop :=
  ∀ w : CmdWord, decode (.command w) = .ok (
    if w.toNat % 8 = 0 then .length
    else if w.toNat % 8 = 1 then .reset
    else if w.toNat % 8 = 2 then .updateByte (BitVec.ofNat 8 (w.toNat / 2 ^ 4))
    else if w.toNat % 8 = 3 then .updateAll (decide (w.toNat / 2 ^ 3 % 2 = 1))
    else if w.toNat % 8 = 4 then
      .updateRange (decide (w.toNat / 2 ^ 3 % 2 = 1))
        (if w.toNat / 2 ^ 4 % 2 ^ 32 < 2 ^ 31 then (w.toNat / 2 ^ 4 % 2 ^ 32 : Int) else (w.toNat / 2 ^ 4 % 2 ^ 32 : Int) - 2 ^ 32)
        (if w.toNat / 2 ^ 36 % 2 ^ 32 < 2 ^ 31 then (w.toNat / 2 ^ 36 % 2 ^ 32 : Int) else (w.toNat / 2 ^ 36 % 2 ^ 32 : Int) - 2 ^ 32)
    else if w.toNat % 8 = 5 then .digestAll (decide (w.toNat / 2 ^ 3 % 2 = 1))
    else if w.toNat % 8 = 6 then
      .digestRange (decide (w.toNat / 2 ^ 3 % 2 = 1))
        (if w.toNat / 2 ^ 4 % 2 ^ 32 < 2 ^ 31 then (w.toNat / 2 ^ 4 % 2 ^ 32 : Int) else (w.toNat / 2 ^ 4 % 2 ^ 32 : Int) - 2 ^ 32)
        (if w.toNat / 2 ^ 36 % 2 ^ 32 < 2 ^ 31 then (w.toNat / 2 ^ 36 % 2 ^ 32 : Int) else (w.toNat / 2 ^ 36 % 2 ^ 32 : Int) - 2 ^ 32)
    else .digest)

/-- R84. -/
def Obligations.IgnoredFieldsDoNotMatter : Prop :=
  ∀ w u : CmdWord, w.extractLsb' 0 3 = u.extractLsb' 0 3 →
    ((w.extractLsb' 0 3 = 0 ∨ w.extractLsb' 0 3 = 1 ∨ w.extractLsb' 0 3 = 7) →
      decode (.command w) = decode (.command u)) ∧
    (w.extractLsb' 0 3 = 2 → w.extractLsb' 4 8 = u.extractLsb' 4 8 → decode (.command w) = decode (.command u)) ∧
    ((w.extractLsb' 0 3 = 3 ∨ w.extractLsb' 0 3 = 5) → w.getLsbD 3 = u.getLsbD 3 →
      decode (.command w) = decode (.command u))

/-- R90 below 48; that the decoder rejects 48 to 63 by name is the model's choice (log entry 9): the spec says only that
they never occur. -/
def Obligations.StepIndexDecodesBelowFortyEight : Prop :=
  ∀ t : StepIndex,
    (t.toNat < 48 → ∃ i, decode (.step t) = .ok i ∧ encode i = .step t ∧ stepInstrs[t.toNat]? = some i) ∧
    (48 ≤ t.toNat → decode (.step t) = .error (.noSuchStep t))

/-- R83: the fields hold values of their range. -/
def Obligations.DecodedInstructionsAreWellFormed : Prop :=
  ∀ (e : Encoded) (i : Instr), decode e = .ok i → i.wf = true

/-- 95_test_vectors.md section 2: words written out there. -/
def Obligations.WordsOfTheSpecDecode : Prop :=
  decode (.command 0x00000000000000000#68) = .ok .length ∧
  decode (.command 0x00000000000000001#68) = .ok .reset ∧
  decode (.command 0x123456780ABCDE61A#68) = .ok (.updateByte 0x61) ∧
  decode (.command 0x0000000000000000B#68) = .ok (.updateAll true) ∧
  decode (.command 0x00000004FFFFFFFFC#68) = .ok (.updateRange true (-1) 4) ∧
  decode (.command 0x00000000000000005#68) = .ok (.digestAll false) ∧
  decode (.command 0x0000004000000010E#68) = .ok (.digestRange true 16 64) ∧
  decode (.command 0xFFFFFFFFFFFFFFFFF#68) = .ok .digest ∧
  decode (.step 0x11#6) = .ok .step17

/-- R33. -/
def Obligations.ResetHasTheSpecifiedValues : Prop :=
  State.reset.acc[0] = 0x67452301#32 ∧ State.reset.acc[1] = 0xEFCDAB89#32 ∧
  State.reset.acc[2] = 0x98BADCFE#32 ∧ State.reset.acc[3] = 0x10325476#32 ∧
  (∀ i : Fin 64, State.reset.buf[i] = 0#8) ∧ State.reset.bufLen = 0 ∧ State.reset.cnt = 0 ∧ State.reset.Idle

/-- 10_state.md R26 at reset; the resting values of the transients are the model's choice (log entry 1). -/
def Obligations.ResetMeetsTheInvariant : Prop :=
  State.reset.Inv

/-- 10_state.md R26 for every step, whatever the state it starts from and whatever `SRC_MAX` is (R5); the resting values of
the transients are the model's choice (log entry 1), the phases log entry 2. -/
def Obligations.EveryStepKeepsTheInvariant : Prop :=
  (∀ s t : State, s.Inv → step s = .next t → t.Inv) ∧
  ∀ (srcMax : Nat) (s t : State), s.Inv → stepWith srcMax s = .next t → t.Inv

/-- 60_exceptions.md R205, R208: nothing else can go wrong inside the engine, whatever `SRC_MAX` is (R5). The phases are the
model's choice (log entry 2), and so are the resting values in `Inv` (log entry 1). -/
def Obligations.NoStepStopsUnderTheInvariant : Prop :=
  (∀ s : State, s.Inv →
    (∀ w src rest, s.inputs = .command w src :: rest → takesSource (decodeCommand w) = true → src.length ≤ Config.srcMaxDefault) →
    ∃ t, step s = .next t ∧ t.Inv) ∧
  ∀ (srcMax : Nat) (s : State), s.Inv →
    (∀ w src rest, s.inputs = .command w src :: rest → takesSource (decodeCommand w) = true → src.length ≤ srcMax) →
    ∃ t, stepWith srcMax s = .next t ∧ t.Inv

/-- 20_memory.md R59, for every `SRC_MAX` (R5); what the step adds around exec is said: the command leaves the host's list,
its source stands on the channel, and is detached after the response (log entries 3, 4). The limit bears on a command
that takes a source and on no other (R84). -/
def Obligations.StepRunsThePresentedCommand : Prop :=
  ∀ (s : State) (w : CmdWord) (src : List Byte) (rest : List Input) (i : Instr),
    s.seq = .idle → s.inputs = .command w src :: rest → decode (.command w) = .ok i → i.wf = true →
    ((takesSource i = true → src.length ≤ Config.srcMaxDefault) →
      step s = match exec i { s with inputs := rest, src := src } with
        | .next t => .next { t with src := [] }
        | .fault f => .fault f
        | .refused r => .refused r) ∧
    ∀ srcMax : Nat, (takesSource i = true → src.length ≤ srcMax) →
      stepWith srcMax s = match exec i { s with inputs := rest, src := src } with
        | .next t => .next { t with src := [] }
        | .fault f => .fault f
        | .refused r => .refused r

/-- 42_compression.md R150; 30_encoding.md R90; that a step of the model is one operation is log entry 2. -/
def Obligations.StepRunsTheIndexedOperation : Prop :=
  ∀ (s : State) (t : StepIndex) (i : Instr),
    s.seq = .step t → decode (.step t) = .ok i → i.wf = true →
    step s = exec i s ∧ ∀ srcMax : Nat, stepWith srcMax s = exec i s

/-- 30_encoding.md R90; the refusal is the model's (log entry 9). -/
def Obligations.StepRefusesAnIndexThatNeverOccurs : Prop :=
  ∀ (s : State) (t : StepIndex), s.seq = .step t → 48 ≤ t.toNat → step s = .refused (.noSuchStep t)

/-- R230, R232: `rst` between commands. That the transients keep their values is read from R34 and R111 (log entry 15,
DEDUCED); that the assertion is an entry of the host's list, taken off by the step, is the model's choice (log entry 4). -/
def Obligations.HardwareResetInputResets : Prop :=
  ∀ (s : State) (rest : List Input), s.seq = .idle → s.inputs = .rst :: rest →
    ∃ t, step s = .next t ∧ t.AtReset ∧ t.inputs = rest ∧ t.responses = s.responses ∧ t.seq = .idle ∧
      t.x = s.x ∧ t.v = s.v ∧ t.src = s.src

/-- R214, R28; the host's list, here empty, is the model's own (log entry 4). -/
def Obligations.TheEngineHoldsItsState : Prop :=
  ∀ s : State, s.seq = .idle → s.inputs = [] → step s = .next s

/-- R64, R87: a result already delivered is not changed by anything later, for every `SRC_MAX` (R5). The list of responses is the model's own
(log entry 5). -/
def Obligations.DeliveredResponsesStay : Prop :=
  ∀ s t : State, (step s = .next t ∨ ∃ srcMax : Nat, stepWith srcMax s = .next t) →
    t.responses = s.responses ∨ ∃ r, t.responses = s.responses ++ [r]

/-- R110. -/
def Obligations.LengthAnswers128 : Prop :=
  (∀ w : CmdWord, w.extractLsb' 0 3 = 0 → decode (.command w) = .ok .length) ∧
  ∀ s : State, exec .length s = .next (s.plus .ok 0x00000000000000000000000000000080#128)

/-- R111 and R84. That nothing but the four items and the response changes, in a state inside a compression too, is read
from the spec (log entry 15, DEDUCED), which describes no such state. -/
def Obligations.ResetCommandReinitialises : Prop :=
  (∀ w : CmdWord, w.extractLsb' 0 3 = 1 → decode (.command w) = .ok .reset) ∧
  ∀ s : State, exec .reset s = .next { s with
    acc := #v[0x67452301#32, 0xEFCDAB89#32, 0x98BADCFE#32, 0x10325476#32]
    buf := Vector.replicate 64 0x00#8
    bufLen := 0
    cnt := 0
    responses := s.responses ++ [⟨.ok, 0⟩] }

/-- R120, R121 below a full buffer. -/
def Obligations.UpdateByteStoresTheByte : Prop :=
  ∀ (b : Byte) (s : State), s.bufLen.toNat < 63 →
    ∃ t, exec (.updateByte b) s = .next t ∧ t.bufLen.toNat = s.bufLen.toNat + 1 ∧
      (∀ i : Fin 64, t.buf[i] = if i.val = s.bufLen.toNat then b else s.buf[i]) ∧
      t.acc = s.acc ∧ t.cnt = s.cnt ∧ t.responses = s.responses ++ [⟨.ok, 0⟩] ∧
      t.x = s.x ∧ t.v = s.v ∧ t.seq = s.seq ∧ t.src = s.src ∧ t.inputs = s.inputs

/-- R120, R121 at the 64th byte. That the transients are zero and the sequencer idle afterwards is the model's choice
(log entries 1, 2). -/
def Obligations.UpdateByteCompressesAFullBuffer : Prop :=
  ∀ (b : Byte) (s : State), s.bufLen.toNat = 63 →
    ∃ t, exec (.updateByte b) s = .next t ∧ t.bufLen = 0 ∧ t.cnt = s.cnt + 64 ∧ (∀ i : Fin 64, t.buf[i] = 0#8) ∧
      t.acc = refCompress s.acc (s.buf.toList.take 63 ++ [b]) ∧ t.responses = s.responses ++ [⟨.ok, 0⟩] ∧
      t.x = zeroWords ∧ t.v = zeroWork ∧ t.seq = .idle ∧ t.src = s.src ∧ t.inputs = s.inputs

/-- R124 with a source, by the closed form of R127. `Absorbed` also says that the transients are zero after a block: that
is the model's choice (log entry 1). -/
def Obligations.UpdateAllAbsorbsTheSource : Prop :=
  ∀ s : State, s.Accepting →
    ∃ t, exec (.updateAll true) s = .next t ∧ Absorbed s s.src t ∧ t.responses = s.responses ++ [⟨.ok, 0⟩]

/-- R123 with a valid range, by the closed form of R127. `Absorbed` also says that the transients are zero after a block:
that is the model's choice (log entry 1). -/
def Obligations.UpdateRangeAbsorbsTheRange : Prop :=
  ∀ (s : State) (offset len : Int), s.Accepting → 0 ≤ offset → 0 ≤ len → offset + len ≤ (s.src.length : Int) →
    ∃ bs t, bs.length = len.toNat ∧ (∀ k, k < len.toNat → bs[k]? = s.src[offset.toNat + k]?) ∧
      exec (.updateRange true offset len) s = .next t ∧ Absorbed s bs t ∧ t.responses = s.responses ++ [⟨.ok, 0⟩]

/-- R128; in every state. -/
def Obligations.UpdateOfNoBytesOnlyResponds : Prop :=
  ∀ (s : State) (offset : Int),
    (s.src = [] → exec (.updateAll true) s = .next (s.plus .ok 0)) ∧
    (0 ≤ offset → offset ≤ (s.src.length : Int) → exec (.updateRange true offset 0) s = .next (s.plus .ok 0))

/-- R201, R203, R204: in every state, whatever the range operands. -/
def Obligations.AbsentSourceIsInvalidArgument : Prop :=
  ∀ (s : State) (offset len : Int),
    exec (.updateAll false) s = .next (s.plus .invalidArgument 0) ∧
    exec (.updateRange false offset len) s = .next (s.plus .invalidArgument 0) ∧
    exec (.digestAll false) s = .next (s.plus .invalidArgument 0) ∧
    exec (.digestRange false offset len) s = .next (s.plus .invalidArgument 0)

/-- R202, R204: in every state. -/
def Obligations.BadRangeIsOutOfRange : Prop :=
  (∀ (s : State) (offset len : Int), (offset < 0 ∨ len < 0 ∨ offset + len > (s.src.length : Int)) →
    exec (.updateRange true offset len) s = .next (s.plus .outOfRange 0) ∧
    exec (.digestRange true offset len) s = .next (s.plus .outOfRange 0)) ∧
  ∀ (i : Instr) (s t : State) (d : Data), isCommand i = true → exec i s = .next t →
    t.responses = s.responses ++ [⟨.outOfRange, d⟩] →
    d = 0 ∧ ∃ offset len : Int, (i = .updateRange true offset len ∨ i = .digestRange true offset len) ∧
      (offset < 0 ∨ len < 0 ∨ offset + len > (s.src.length : Int))

/-- R87, R200, R204, R216: the status of every command and what a failure leaves. -/
def Obligations.EveryCommandRespondsOnceWithItsStatus : Prop :=
  ∀ (i : Instr) (s t : State), isCommand i = true → exec i s = .next t →
    ∃ r : Response, t.responses = s.responses ++ [r] ∧ t.src = s.src ∧ t.inputs = s.inputs ∧
      r.status.code ≠ 3 ∧ (r.status ≠ .ok → t = s.plus r.status 0) ∧
      (match i with
        | .updateAll sp => r = ⟨if sp then .ok else .invalidArgument, 0⟩
        | .digestAll sp => r.status = if sp then .ok else .invalidArgument
        | .updateRange sp offset len =>
          r = ⟨if sp = false then .invalidArgument
            else if offset < 0 ∨ len < 0 ∨ offset + len > (s.src.length : Int) then .outOfRange else .ok, 0⟩
        | .digestRange sp offset len =>
          r.status = if sp = false then .invalidArgument
            else if offset < 0 ∨ len < 0 ∨ offset + len > (s.src.length : Int) then .outOfRange else .ok
        | .updateByte _ => r = ⟨.ok, 0⟩
        | .reset => r = ⟨.ok, 0⟩
        | .length => r = ⟨.ok, 128⟩
        | _ => r.status = .ok)

/-- 41_update_buffering.md R120 (precondition), 10_state.md R24; the fault is the model's (log entry 8). -/
def Obligations.AbsorbingNeedsRoom : Prop :=
  ∀ (s : State), 64 ≤ s.bufLen.toNat →
    (∀ b, exec (.updateByte b) s = .fault .bufferLengthOutOfRange) ∧
    (s.src ≠ [] → exec (.updateAll true) s = .fault .bufferLengthOutOfRange) ∧
    (∀ offset len : Int, 0 ≤ offset → 0 < len → offset + len ≤ (s.src.length : Int) →
      exec (.updateRange true offset len) s = .fault .bufferLengthOutOfRange) ∧
    exec .digest s = .fault .bufferLengthOutOfRange ∧
    exec (.digestAll true) s = .fault .bufferLengthOutOfRange ∧
    (∀ offset len : Int, 0 ≤ offset → 0 ≤ len → offset + len ≤ (s.src.length : Int) →
      exec (.digestRange true offset len) s = .fault .bufferLengthOutOfRange)

/-- R89: an identity on state and response. -/
def Obligations.UpdateAllIsTheFullRange : Prop :=
  ∀ s : State, exec (.updateAll true) s = exec (.updateRange true 0 (s.src.length : Int)) s ∧
    exec (.digestAll true) s = exec (.digestRange true 0 (s.src.length : Int)) s

/-- R89, R126. -/
def Obligations.UpdateRangeIsThatManyByteUpdates : Prop :=
  ∀ (s : State) (offset len : Int), s.Accepting → 0 ≤ offset → 0 ≤ len → offset + len ≤ (s.src.length : Int) →
    ∃ t u, exec (.updateRange true offset len) s = .next t ∧
      execList (((s.src.drop offset.toNat).take len.toNat).map Instr.updateByte) s = .next u ∧
      t.SameArch u ∧ t.x = u.x ∧ t.v = u.v ∧ t.seq = u.seq ∧ t.src = u.src ∧ t.inputs = u.inputs

/-- R56: bytes outside the range have no influence, and a failing command reads none. -/
def Obligations.SourceBytesOutsideTheRangeAreNotRead : Prop :=
  ∀ (s : State) (other : List Byte) (sp : Bool) (offset len : Int), other.length = s.src.length →
    (0 ≤ offset → 0 ≤ len → ∀ k, k < len.toNat → other[offset.toNat + k]? = s.src[offset.toNat + k]?) →
    (∀ t, exec (.updateRange sp offset len) s = .next t →
      exec (.updateRange sp offset len) { s with src := other } = .next { t with src := other }) ∧
    (∀ t, exec (.digestRange sp offset len) s = .next t →
      exec (.digestRange sp offset len) { s with src := other } = .next { t with src := other })

/-- R20, R23, N5: only acc, bufLen, cnt and buf[0..bufLen) matter to a command. -/
def Obligations.UnobservableStateHasNoInfluence : Prop :=
  ∀ (i : Instr) (s u t : State), isCommand i = true →
    u.acc = s.acc → u.bufLen = s.bufLen → u.cnt = s.cnt → u.pending = s.pending → u.src = s.src →
    u.responses = s.responses → exec i s = .next t →
    ∃ t', exec i u = .next t' ∧ t'.acc = t.acc ∧ t'.bufLen = t.bufLen ∧ t'.cnt = t.cnt ∧ t'.pending = t.pending ∧
      t'.src = t.src ∧ t'.responses = t.responses

/-- R147 with the rows of R154 for round 1. That the operation itself moves the sequencer to the
next index, in every state, is the model's choice (log entry 2). -/
def Obligations.RoundOneOperationsAreTheTable : Prop :=
  ∀ s : State,
    (exec .step00 s = .next (s.worked 0 ((s.v[0] + ((s.v[1] &&& s.v[2]) ||| (~~~s.v[1] &&& s.v[3])) + s.x[0]).rotateLeft 3) (.step 1))) ∧
    (exec .step01 s = .next (s.worked 3 ((s.v[3] + ((s.v[0] &&& s.v[1]) ||| (~~~s.v[0] &&& s.v[2])) + s.x[1]).rotateLeft 7) (.step 2))) ∧
    (exec .step02 s = .next (s.worked 2 ((s.v[2] + ((s.v[3] &&& s.v[0]) ||| (~~~s.v[3] &&& s.v[1])) + s.x[2]).rotateLeft 11) (.step 3))) ∧
    (exec .step03 s = .next (s.worked 1 ((s.v[1] + ((s.v[2] &&& s.v[3]) ||| (~~~s.v[2] &&& s.v[0])) + s.x[3]).rotateLeft 19) (.step 4))) ∧
    (exec .step04 s = .next (s.worked 0 ((s.v[0] + ((s.v[1] &&& s.v[2]) ||| (~~~s.v[1] &&& s.v[3])) + s.x[4]).rotateLeft 3) (.step 5))) ∧
    (exec .step05 s = .next (s.worked 3 ((s.v[3] + ((s.v[0] &&& s.v[1]) ||| (~~~s.v[0] &&& s.v[2])) + s.x[5]).rotateLeft 7) (.step 6))) ∧
    (exec .step06 s = .next (s.worked 2 ((s.v[2] + ((s.v[3] &&& s.v[0]) ||| (~~~s.v[3] &&& s.v[1])) + s.x[6]).rotateLeft 11) (.step 7))) ∧
    (exec .step07 s = .next (s.worked 1 ((s.v[1] + ((s.v[2] &&& s.v[3]) ||| (~~~s.v[2] &&& s.v[0])) + s.x[7]).rotateLeft 19) (.step 8))) ∧
    (exec .step08 s = .next (s.worked 0 ((s.v[0] + ((s.v[1] &&& s.v[2]) ||| (~~~s.v[1] &&& s.v[3])) + s.x[8]).rotateLeft 3) (.step 9))) ∧
    (exec .step09 s = .next (s.worked 3 ((s.v[3] + ((s.v[0] &&& s.v[1]) ||| (~~~s.v[0] &&& s.v[2])) + s.x[9]).rotateLeft 7) (.step 10))) ∧
    (exec .step10 s = .next (s.worked 2 ((s.v[2] + ((s.v[3] &&& s.v[0]) ||| (~~~s.v[3] &&& s.v[1])) + s.x[10]).rotateLeft 11) (.step 11))) ∧
    (exec .step11 s = .next (s.worked 1 ((s.v[1] + ((s.v[2] &&& s.v[3]) ||| (~~~s.v[2] &&& s.v[0])) + s.x[11]).rotateLeft 19) (.step 12))) ∧
    (exec .step12 s = .next (s.worked 0 ((s.v[0] + ((s.v[1] &&& s.v[2]) ||| (~~~s.v[1] &&& s.v[3])) + s.x[12]).rotateLeft 3) (.step 13))) ∧
    (exec .step13 s = .next (s.worked 3 ((s.v[3] + ((s.v[0] &&& s.v[1]) ||| (~~~s.v[0] &&& s.v[2])) + s.x[13]).rotateLeft 7) (.step 14))) ∧
    (exec .step14 s = .next (s.worked 2 ((s.v[2] + ((s.v[3] &&& s.v[0]) ||| (~~~s.v[3] &&& s.v[1])) + s.x[14]).rotateLeft 11) (.step 15))) ∧
    (exec .step15 s = .next (s.worked 1 ((s.v[1] + ((s.v[2] &&& s.v[3]) ||| (~~~s.v[2] &&& s.v[0])) + s.x[15]).rotateLeft 19) (.step 16)))

/-- R148 with the rows of R154 for round 2. That the operation itself moves the sequencer to the
next index, in every state, is the model's choice (log entry 2). -/
def Obligations.RoundTwoOperationsAreTheTable : Prop :=
  ∀ s : State,
    (exec .step16 s = .next (s.worked 0 ((s.v[0] + ((s.v[1] &&& s.v[2]) ||| (s.v[1] &&& s.v[3]) ||| (s.v[2] &&& s.v[3])) + s.x[0] + 0x5A827999#32).rotateLeft 3) (.step 17))) ∧
    (exec .step17 s = .next (s.worked 3 ((s.v[3] + ((s.v[0] &&& s.v[1]) ||| (s.v[0] &&& s.v[2]) ||| (s.v[1] &&& s.v[2])) + s.x[4] + 0x5A827999#32).rotateLeft 5) (.step 18))) ∧
    (exec .step18 s = .next (s.worked 2 ((s.v[2] + ((s.v[3] &&& s.v[0]) ||| (s.v[3] &&& s.v[1]) ||| (s.v[0] &&& s.v[1])) + s.x[8] + 0x5A827999#32).rotateLeft 9) (.step 19))) ∧
    (exec .step19 s = .next (s.worked 1 ((s.v[1] + ((s.v[2] &&& s.v[3]) ||| (s.v[2] &&& s.v[0]) ||| (s.v[3] &&& s.v[0])) + s.x[12] + 0x5A827999#32).rotateLeft 13) (.step 20))) ∧
    (exec .step20 s = .next (s.worked 0 ((s.v[0] + ((s.v[1] &&& s.v[2]) ||| (s.v[1] &&& s.v[3]) ||| (s.v[2] &&& s.v[3])) + s.x[1] + 0x5A827999#32).rotateLeft 3) (.step 21))) ∧
    (exec .step21 s = .next (s.worked 3 ((s.v[3] + ((s.v[0] &&& s.v[1]) ||| (s.v[0] &&& s.v[2]) ||| (s.v[1] &&& s.v[2])) + s.x[5] + 0x5A827999#32).rotateLeft 5) (.step 22))) ∧
    (exec .step22 s = .next (s.worked 2 ((s.v[2] + ((s.v[3] &&& s.v[0]) ||| (s.v[3] &&& s.v[1]) ||| (s.v[0] &&& s.v[1])) + s.x[9] + 0x5A827999#32).rotateLeft 9) (.step 23))) ∧
    (exec .step23 s = .next (s.worked 1 ((s.v[1] + ((s.v[2] &&& s.v[3]) ||| (s.v[2] &&& s.v[0]) ||| (s.v[3] &&& s.v[0])) + s.x[13] + 0x5A827999#32).rotateLeft 13) (.step 24))) ∧
    (exec .step24 s = .next (s.worked 0 ((s.v[0] + ((s.v[1] &&& s.v[2]) ||| (s.v[1] &&& s.v[3]) ||| (s.v[2] &&& s.v[3])) + s.x[2] + 0x5A827999#32).rotateLeft 3) (.step 25))) ∧
    (exec .step25 s = .next (s.worked 3 ((s.v[3] + ((s.v[0] &&& s.v[1]) ||| (s.v[0] &&& s.v[2]) ||| (s.v[1] &&& s.v[2])) + s.x[6] + 0x5A827999#32).rotateLeft 5) (.step 26))) ∧
    (exec .step26 s = .next (s.worked 2 ((s.v[2] + ((s.v[3] &&& s.v[0]) ||| (s.v[3] &&& s.v[1]) ||| (s.v[0] &&& s.v[1])) + s.x[10] + 0x5A827999#32).rotateLeft 9) (.step 27))) ∧
    (exec .step27 s = .next (s.worked 1 ((s.v[1] + ((s.v[2] &&& s.v[3]) ||| (s.v[2] &&& s.v[0]) ||| (s.v[3] &&& s.v[0])) + s.x[14] + 0x5A827999#32).rotateLeft 13) (.step 28))) ∧
    (exec .step28 s = .next (s.worked 0 ((s.v[0] + ((s.v[1] &&& s.v[2]) ||| (s.v[1] &&& s.v[3]) ||| (s.v[2] &&& s.v[3])) + s.x[3] + 0x5A827999#32).rotateLeft 3) (.step 29))) ∧
    (exec .step29 s = .next (s.worked 3 ((s.v[3] + ((s.v[0] &&& s.v[1]) ||| (s.v[0] &&& s.v[2]) ||| (s.v[1] &&& s.v[2])) + s.x[7] + 0x5A827999#32).rotateLeft 5) (.step 30))) ∧
    (exec .step30 s = .next (s.worked 2 ((s.v[2] + ((s.v[3] &&& s.v[0]) ||| (s.v[3] &&& s.v[1]) ||| (s.v[0] &&& s.v[1])) + s.x[11] + 0x5A827999#32).rotateLeft 9) (.step 31))) ∧
    (exec .step31 s = .next (s.worked 1 ((s.v[1] + ((s.v[2] &&& s.v[3]) ||| (s.v[2] &&& s.v[0]) ||| (s.v[3] &&& s.v[0])) + s.x[15] + 0x5A827999#32).rotateLeft 13) (.step 32)))

/-- R149 with the rows of R154 for round 3. That the operation itself moves the sequencer to the
next index, in every state, and the phase `fold` after STEP47 are the model's choice (log entry 2). -/
def Obligations.RoundThreeOperationsAreTheTable : Prop :=
  ∀ s : State,
    (exec .step32 s = .next (s.worked 0 ((s.v[0] + (s.v[1] ^^^ s.v[2] ^^^ s.v[3]) + s.x[0] + 0x6ED9EBA1#32).rotateLeft 3) (.step 33))) ∧
    (exec .step33 s = .next (s.worked 3 ((s.v[3] + (s.v[0] ^^^ s.v[1] ^^^ s.v[2]) + s.x[8] + 0x6ED9EBA1#32).rotateLeft 9) (.step 34))) ∧
    (exec .step34 s = .next (s.worked 2 ((s.v[2] + (s.v[3] ^^^ s.v[0] ^^^ s.v[1]) + s.x[4] + 0x6ED9EBA1#32).rotateLeft 11) (.step 35))) ∧
    (exec .step35 s = .next (s.worked 1 ((s.v[1] + (s.v[2] ^^^ s.v[3] ^^^ s.v[0]) + s.x[12] + 0x6ED9EBA1#32).rotateLeft 15) (.step 36))) ∧
    (exec .step36 s = .next (s.worked 0 ((s.v[0] + (s.v[1] ^^^ s.v[2] ^^^ s.v[3]) + s.x[2] + 0x6ED9EBA1#32).rotateLeft 3) (.step 37))) ∧
    (exec .step37 s = .next (s.worked 3 ((s.v[3] + (s.v[0] ^^^ s.v[1] ^^^ s.v[2]) + s.x[10] + 0x6ED9EBA1#32).rotateLeft 9) (.step 38))) ∧
    (exec .step38 s = .next (s.worked 2 ((s.v[2] + (s.v[3] ^^^ s.v[0] ^^^ s.v[1]) + s.x[6] + 0x6ED9EBA1#32).rotateLeft 11) (.step 39))) ∧
    (exec .step39 s = .next (s.worked 1 ((s.v[1] + (s.v[2] ^^^ s.v[3] ^^^ s.v[0]) + s.x[14] + 0x6ED9EBA1#32).rotateLeft 15) (.step 40))) ∧
    (exec .step40 s = .next (s.worked 0 ((s.v[0] + (s.v[1] ^^^ s.v[2] ^^^ s.v[3]) + s.x[1] + 0x6ED9EBA1#32).rotateLeft 3) (.step 41))) ∧
    (exec .step41 s = .next (s.worked 3 ((s.v[3] + (s.v[0] ^^^ s.v[1] ^^^ s.v[2]) + s.x[9] + 0x6ED9EBA1#32).rotateLeft 9) (.step 42))) ∧
    (exec .step42 s = .next (s.worked 2 ((s.v[2] + (s.v[3] ^^^ s.v[0] ^^^ s.v[1]) + s.x[5] + 0x6ED9EBA1#32).rotateLeft 11) (.step 43))) ∧
    (exec .step43 s = .next (s.worked 1 ((s.v[1] + (s.v[2] ^^^ s.v[3] ^^^ s.v[0]) + s.x[13] + 0x6ED9EBA1#32).rotateLeft 15) (.step 44))) ∧
    (exec .step44 s = .next (s.worked 0 ((s.v[0] + (s.v[1] ^^^ s.v[2] ^^^ s.v[3]) + s.x[3] + 0x6ED9EBA1#32).rotateLeft 3) (.step 45))) ∧
    (exec .step45 s = .next (s.worked 3 ((s.v[3] + (s.v[0] ^^^ s.v[1] ^^^ s.v[2]) + s.x[11] + 0x6ED9EBA1#32).rotateLeft 9) (.step 46))) ∧
    (exec .step46 s = .next (s.worked 2 ((s.v[2] + (s.v[3] ^^^ s.v[0] ^^^ s.v[1]) + s.x[7] + 0x6ED9EBA1#32).rotateLeft 11) (.step 47))) ∧
    (exec .step47 s = .next (s.worked 1 ((s.v[1] + (s.v[2] ^^^ s.v[3] ^^^ s.v[0]) + s.x[15] + 0x6ED9EBA1#32).rotateLeft 15) .fold))

/-- R150 with R151 to R153, against the rows of R154 that the meanings are written from. The move of the sequencer
(`advance`) is the model's choice (log entry 2). -/
def Obligations.ScheduleRuleGivesTheTable : Prop :=
  ∀ (t : Nat) (i : Instr) (s : State), stepInstrs[t]? = some i → exec i s = .next ((stepOp t s).advance t)

/-- R151: the closed forms, and that each row is a permutation of 0 to 15. -/
def Obligations.WordOrdersAreTheClosedForms : Prop :=
  (∀ j : Fin 16, (romK .r1)[j].val = j.val ∧ (romK .r2)[j].val = 4 * (j.val % 4) + j.val / 4 ∧
      (romK .r3)[j].val = 8 * (j.val % 2) + 4 * (j.val / 2 % 2) + 2 * (j.val / 4 % 2) + j.val / 8) ∧
  ∀ (r : Round) (k : Fin 16), ∃ j : Fin 16, (romK r)[j] = k ∧ ∀ j' : Fin 16, (romK r)[j'] = k → j' = j

/-- R143, R144, R145. -/
def Obligations.MixingFunctionsAreBitwise : Prop :=
  ∀ (p q z : Word), mixF p q z = (p &&& q) ||| ((p ^^^ 0xFFFFFFFF#32) &&& z) ∧
    mixG p q z = (p &&& q) ||| (p &&& z) ||| (q &&& z) ∧ mixH p q z = p ^^^ q ^^^ z ∧
    ∀ i : Nat, i < 32 →
    (mixF p q z).getLsbD i = (if p.getLsbD i = true then q.getLsbD i else z.getLsbD i) ∧
    (mixG p q z).getLsbD i = decide (2 ≤ (p.getLsbD i).toNat + (q.getLsbD i).toNat + (z.getLsbD i).toNat) ∧
    (mixH p q z).getLsbD i = decide (((p.getLsbD i).toNat + (q.getLsbD i).toNat + (z.getLsbD i).toNat) % 2 = 1)

/-- R146, R7. -/
def Obligations.RotationMovesEveryBit : Prop :=
  ∀ (p : Word) (n i : Nat), 1 ≤ n → n ≤ 31 → i < 32 → (rotl32 p n).getLsbD ((i + n) % 32) = p.getLsbD i

/-- R141, R51. -/
def Obligations.BlockWordsAreLittleEndian : Prop :=
  ∀ (s : State) (k : Fin 16), s.blockWords[k].toNat =
    (s.buf[4 * k.val]).toNat + 2 ^ 8 * (s.buf[4 * k.val + 1]).toNat + 2 ^ 16 * (s.buf[4 * k.val + 2]).toNat +
      2 ^ 24 * (s.buf[4 * k.val + 3]).toNat

/-- R141, R142; the phase is the model's name (log entry 2). -/
def Obligations.LoadPhaseDecodesAndCopies : Prop :=
  ∀ s : State, s.seq = .load → ∃ t, step s = .next t ∧ t.v = s.acc ∧ t.seq = .step 0 ∧
    (∀ k : Fin 16, t.x[k] = s.bufRead32 k) ∧ t.acc = s.acc ∧ t.buf = s.buf ∧ t.bufLen = s.bufLen ∧ t.cnt = s.cnt ∧
    t.src = s.src ∧ t.inputs = s.inputs ∧ t.responses = s.responses

/-- R155, R156, R157; the phase and the resting values are the model's (log entries 1, 2). -/
def Obligations.FoldPhaseEndsTheCompression : Prop :=
  ∀ s : State, s.seq = .fold → ∃ t, step s = .next t ∧ (∀ i : Fin 4, t.acc[i] = s.acc[i] + s.v[i]) ∧
    t.cnt.toNat = (s.cnt.toNat + 64) % 2 ^ 64 ∧ t.bufLen = 0 ∧ (∀ i : Fin 64, t.buf[i] = 0#8) ∧
    t.x = zeroWords ∧ t.v = zeroWork ∧ t.seq = .idle ∧
    t.src = s.src ∧ t.inputs = s.inputs ∧ t.responses = s.responses

/-- R140, R150 to R158: the machine's schedule against an independent formulation. -/
def Obligations.CompressIsTheReferenceCompression : Prop :=
  ∀ s : State, s.compress.acc = refCompress s.acc s.buf.toList

/-- R140, R150: fifty steps of the machine from the load phase, for every `SRC_MAX`. The phases and the grain of a step are
the model's choice (log entry 2). -/
def Obligations.SteppingThroughACompressionIsCompress : Prop :=
  ∀ s : State, s.seq = .load →
    Host.Core.run Sys2Proof.core 50 s = Host.Outcome.next s.compress ∧
    ∀ srcMax : Nat, Host.Core.run (coreWith srcMax) 50 s = Host.Outcome.next s.compress

/-- R180. -/
def Obligations.BitLengthWrapsModulo2To64 : Prop :=
  ∀ s : State, s.bitLen.toNat = ((s.cnt.toNat + s.bufLen.toNat) * 8) % 2 ^ 64 ∧
    s.bitLen.toNat = (s.cnt.toNat + s.bufLen.toNat) % 2 ^ 61 * 8

/-- R181. -/
def Obligations.PaddingLengthByBufferLength : Prop :=
  ∀ s : State, s.Accepting →
    s.padLen = (if 64 - s.bufLen.toNat < 9 then 64 - s.bufLen.toNat + 64 else 64 - s.bufLen.toNat) ∧
    9 ≤ s.padLen ∧ s.padLen ≤ 72 ∧
    (64 - s.bufLen.toNat < 9 ↔ 56 ≤ s.bufLen.toNat) ∧
    (s.bufLen.toNat ≤ 55 → s.bufLen.toNat + s.padLen = 64) ∧ (56 ≤ s.bufLen.toNat → s.bufLen.toNat + s.padLen = 128) ∧
    ∃ t, absorbAll s.padding s = some t ∧ t.cnt = s.cnt + BitVec.ofNat 64 (64 * ((s.bufLen.toNat + s.padLen) / 64))

/-- R182, R183. -/
def Obligations.PaddingSequenceBytes : Prop :=
  ∀ s : State, s.Accepting → s.padding.length = s.padLen ∧ s.padding[0]? = some 0x80#8 ∧
    (∀ i, 1 ≤ i → i ≤ s.padLen - 9 → s.padding[i]? = some 0x00#8) ∧
    (∀ k, k < 8 → s.padding[s.padLen - 8 + k]? = some (s.bitLen.extractLsb' (8 * k) 8))

/-- R184. -/
def Obligations.PaddingEmptiesTheBuffer : Prop :=
  ∀ s : State, s.Accepting → ∃ t, absorbAll s.padding s = some t ∧ t.bufLen = 0 ∧
    t.cnt = s.cnt + (if s.bufLen.toNat ≤ 55 then 64 else 128) ∧ t.responses = s.responses

/-- R186, R52, R87. -/
def Obligations.ResultBytesAreTheAccumulator : Prop :=
  ∀ (acc : Vector Word 4) (i j : Fin 4),
    (packBytes (serialise acc)).extractLsb' (8 * (4 * i.val + j.val)) 8 = acc[i].extractLsb' (8 * j.val) 8 ∧
    (serialise acc)[4 * i.val + j.val]? = some (acc[i].extractLsb' (8 * j.val) 8) ∧ (serialise acc).length = 16

/-- R187, R188, in every accepting state. That the transients are zero and the
sequencer idle afterwards (`Digested.compressor`) is the model's choice (log entries 1, 2). -/
def Obligations.DigestFinalizes : Prop :=
  ∀ s : State, s.Accepting → ∃ t, exec .digest s = .next t ∧ Digested s [] t

/-- R189 with a source. That the transients are zero and the
sequencer idle afterwards (`Digested.compressor`) is the model's choice (log entries 1, 2). -/
def Obligations.DigestAllAbsorbsAndFinalizes : Prop :=
  ∀ s : State, s.Accepting → ∃ t, exec (.digestAll true) s = .next t ∧ Digested s s.src t

/-- R190 with a valid range. That the transients are zero and the
sequencer idle afterwards (`Digested.compressor`) is the model's choice (log entries 1, 2). -/
def Obligations.DigestRangeAbsorbsAndFinalizes : Prop :=
  ∀ (s : State) (offset len : Int), s.Accepting → 0 ≤ offset → 0 ≤ len → offset + len ≤ (s.src.length : Int) →
    ∃ bs t, bs.length = len.toNat ∧ (∀ k, k < len.toNat → bs[k]? = s.src[offset.toNat + k]?) ∧
      exec (.digestRange true offset len) s = .next t ∧ Digested s bs t

/-- R89. -/
def Obligations.DigestAllIsUpdateAllThenDigest : Prop :=
  ∀ s : State, s.Accepting → ∃ u t t', exec (.updateAll true) s = .next u ∧ exec .digest u = .next t ∧
    exec (.digestAll true) s = .next t' ∧ t.SameArch t' ∧ t.responses.getLast? = t'.responses.getLast? ∧
    t.src = t'.src ∧ t.inputs = t'.inputs

/-- R191: there is no third outcome. -/
def Obligations.FinalizingResetsOrFailsUnchanged : Prop :=
  ∀ (i : Instr) (s t : State),
    (i = .digest ∨ (∃ sp, i = .digestAll sp) ∨ ∃ sp offset len, i = .digestRange sp offset len) → exec i s = .next t →
    (∃ d, t.responses = s.responses ++ [⟨.ok, d⟩] ∧ t.AtReset) ∨
    (∃ st, st ≠ .ok ∧ t = s.plus st 0)

/-- R188 corner case, 95_test_vectors.md section 1. -/
def Obligations.SecondDigestIsOfTheEmptyInput : Prop :=
  ∀ s t : State, exec .digest s = .next t →
    ∃ u, exec .digest t = .next u ∧
      u.responses = t.responses ++ [⟨.ok, 0xc089c0e0d7593cb731e96ad1e0cfd631#128⟩]

/-- R192, R193: the digest as a function of the message, at every length. -/
def Obligations.DigestOfAnIdleEngineIsTheMessageDigest : Prop :=
  ∀ s : State, s.Idle → ∃ t d, exec (.digestAll true) s = .next t ∧
    t.responses = s.responses ++ [⟨.ok, d⟩] ∧ dataBytes d = refDigest s.src ∧ t.AtReset

/-- R126, R192: a run of the machine over any partition of the message into sources that exist, for every `SRC_MAX` (R5).
One step of the model for each command, and the host's list of commands, are the model's choice (log entries 2, 4). -/
def Obligations.ChunkingDoesNotChangeTheDigest : Prop :=
  ∀ (srcMax : Nat) (s : State) (chunks : List (List Byte)) (rest : List Input),
    s.Idle → s.seq = .idle → (∀ c ∈ chunks, c.length ≤ srcMax) →
    s.inputs = chunks.map (fun c => .command 0x0000000000000000B#68 c) ++ .command 0x00000000000000007#68 [] :: rest →
    ∃ (t : State) (d : Data), Host.Core.run (coreWith srcMax) (chunks.length + 1) s = Host.Outcome.next t ∧
      t.responses.getLast? = some ⟨.ok, d⟩ ∧ dataBytes d = refDigest chunks.flatten ∧ t.AtReset ∧ t.inputs = rest

/-- R129 on R27, row by row, both columns at once: an idle state is an accepting one (with `cnt` and `bufLen` 0, so that the
bound below only bounds the source). The exception the table names needs 2^64 bytes, and the bound leaves it out. -/
def Obligations.LogicalStateTransitions : Prop :=
  (∀ s : State, s.Idle → s.Accepting) ∧
  (∀ (i : Instr) (s : State), isCommand i = true → s.Accepting → ∃ t, exec i s = .next t ∧ t.Accepting) ∧
  ∀ s t : State,
    (exec .length s = .next t → s.SameArch t) ∧
    (exec .reset s = .next t → t.Idle) ∧
    (s.Accepting →
      (∀ b, s.cnt.toNat + s.bufLen.toNat + 1 < 2 ^ 64 → exec (.updateByte b) s = .next t → t.Accepting ∧ ¬ t.Idle) ∧
      (s.src ≠ [] → s.cnt.toNat + s.bufLen.toNat + s.src.length < 2 ^ 64 →
        exec (.updateAll true) s = .next t → t.Accepting ∧ ¬ t.Idle) ∧
      (∀ offset len : Int, 0 ≤ offset → 1 ≤ len → offset + len ≤ (s.src.length : Int) →
        s.cnt.toNat + s.bufLen.toNat + len.toNat < 2 ^ 64 →
        exec (.updateRange true offset len) s = .next t → t.Accepting ∧ ¬ t.Idle)) ∧
    (s.src = [] → exec (.updateAll true) s = .next t → s.SameArch t) ∧
    (∀ offset : Int, 0 ≤ offset → offset ≤ (s.src.length : Int) →
      exec (.updateRange true offset 0) s = .next t → s.SameArch t) ∧
    (∀ i st d, isCommand i = true → exec i s = .next t → t.responses = s.responses ++ [⟨st, d⟩] → st ≠ .ok →
      s.SameArch t) ∧
    (exec .digest s = .next t → t.Idle) ∧
    (∀ sp d, exec (.digestAll sp) s = .next t → t.responses = s.responses ++ [⟨.ok, d⟩] → t.Idle) ∧
    (∀ sp offset len d, exec (.digestRange sp offset len) s = .next t → t.responses = s.responses ++ [⟨.ok, d⟩] → t.Idle)

/-- 10_state.md R31, R20: a command leaves no compression in progress; the resting values are the model's choice (log entry 1). -/
def Obligations.TransientsRestBetweenCommands : Prop :=
  ∀ (i : Instr) (s t : State), isCommand i = true → s.seq = .idle → s.x = zeroWords → s.v = zeroWork →
    exec i s = .next t → t.seq = .idle ∧ t.x = zeroWords ∧ t.v = zeroWork

/-- R36, R212, for every `N_INSTANCES` (at least 1) and every `SRC_MAX` (R5). -/
def Obligations.InstancesDoNotInterfere : Prop :=
  ∀ (srcMax n : Nat) (i j : Fin n) (p p1 p2 : Platform n), i ≠ j →
    Platform.stepAt srcMax i p = .next p1 → Platform.stepAt srcMax j p = .next p2 →
    p1.engines[j] = p.engines[j] ∧
    ∃ q, Platform.stepAt srcMax j p1 = .next q ∧ Platform.stepAt srcMax i p2 = .next q

/-- R5, R50, R84. `SRC_MAX` decides which sources exist and nothing else: machines with different limits take the same step
unless the next command takes a source that only one of them admits. That a step presented a longer source is refused by
name, and that what the host runs is the machine at the spec's default, are the model's choices (log entry 10). -/
def Obligations.TheLimitBoundsSourcesAndNothingElse : Prop :=
  (∀ (m n : Nat) (s : State),
    (∀ w src rest, s.inputs = .command w src :: rest → takesSource (decodeCommand w) = true →
      (src.length ≤ m ↔ src.length ≤ n)) →
    stepWith m s = stepWith n s) ∧
  (∀ (srcMax : Nat) (s : State) (w : CmdWord) (src : List Byte) (rest : List Input),
    s.seq = .idle → s.inputs = .command w src :: rest → takesSource (decodeCommand w) = true → srcMax < src.length →
    stepWith srcMax s = .refused .sourceTooLarge) ∧
  Sys2Proof.core = coreWith (2 ^ 31 - 1) ∧ ∀ s : State, step s = stepWith (2 ^ 31 - 1) s
end

