-- ==== Sys2Proof/Laws/Decode.lean ====
section
/-! SUPPORT. The fields of a packed command word (30_encoding.md R80), and what the decoders do, said once. -/

namespace Sys2Proof

@[simp] theorem opField_packWord (op : BitVec 3) (sp : Bool) (o l : BitVec 32) : opField (packWord op sp o l) = op := by
  unfold opField packWord
  exact BitVec.extractLsb'_append_eq_right

theorem packWord_getLsbD (op : BitVec 3) (sp : Bool) (o l : BitVec 32) (i : Nat) :
    (packWord op sp o l).getLsbD i =
      if i < 3 then op.getLsbD i else if i < 4 then sp else if i < 36 then o.getLsbD (i - 4) else l.getLsbD (i - 36) := by
  unfold packWord
  rw [BitVec.getLsbD_append, BitVec.getLsbD_append, BitVec.getLsbD_append]
  by_cases h3 : i < 3
  · simp [h3]
  · by_cases h4 : i < 4
    · have : i = 3 := by omega
      subst this; simp
    · by_cases h36 : i < 36
      · have h1 : ¬ i - 3 < 1 := by omega
        have h2 : i - 3 - 1 < 32 := by omega
        have h5 : i - 3 - 1 = i - 4 := by omega
        simp [h3, h4, h36, h1, h5]; omega
      · have h1 : ¬ i - 3 < 1 := by omega
        have h2 : ¬ i - 3 - 1 < 32 := by omega
        have h5 : i - 3 - 1 - 32 = i - 36 := by omega
        simp [h3, h4, h36, h1, h2, h5]

@[simp] theorem spField_packWord (op : BitVec 3) (sp : Bool) (o l : BitVec 32) : spField (packWord op sp o l) = sp := by
  unfold spField
  rw [packWord_getLsbD]; simp

theorem extract_offset_packWord (op : BitVec 3) (sp : Bool) (o l : BitVec 32) :
    (packWord op sp o l).extractLsb' 4 32 = o := by
  ext i hi
  rw [← BitVec.getLsbD_eq_getElem, ← BitVec.getLsbD_eq_getElem, BitVec.getLsbD_extractLsb', packWord_getLsbD]
  have h1 : ¬ 4 + i < 3 := by omega
  have h2 : ¬ 4 + i < 4 := by omega
  have h3 : 4 + i < 36 := by omega
  have h4 : 4 + i - 4 = i := by omega
  simp [hi, h1, h3, h4]

theorem extract_length_packWord (op : BitVec 3) (sp : Bool) (o l : BitVec 32) :
    (packWord op sp o l).extractLsb' 36 32 = l := by
  ext i hi
  rw [← BitVec.getLsbD_eq_getElem, ← BitVec.getLsbD_eq_getElem, BitVec.getLsbD_extractLsb', packWord_getLsbD]
  have h1 : ¬ 36 + i < 3 := by omega
  have h2 : ¬ 36 + i < 4 := by omega
  have h3 : ¬ 36 + i < 36 := by omega
  have h4 : 36 + i - 36 = i := by omega
  simp [hi, h1, h2, h4]

@[simp] theorem offsetField_packWord (op : BitVec 3) (sp : Bool) (o l : BitVec 32) :
    offsetField (packWord op sp o l) = o.toInt := by
  rw [offsetField, extract_offset_packWord]

@[simp] theorem lengthField_packWord (op : BitVec 3) (sp : Bool) (o l : BitVec 32) :
    lengthField (packWord op sp o l) = l.toInt := by
  rw [lengthField, extract_length_packWord]

theorem stepInstrs_length : stepInstrs.length = 48 := rfl

/-- A step index below 48 decodes to its operation (R90). -/
theorem decodeStep_of_lt (t : StepIndex) (h : t.toNat < 48) :
    decodeStep t = .ok (stepInstrs[t.toNat]'(by rw [stepInstrs_length]; exact h)) := by
  unfold decodeStep
  rw [List.getElem?_eq_getElem (by rw [stepInstrs_length]; exact h)]

/-- A step index from 48 on is rejected by name (R90). -/
theorem decodeStep_of_ge (t : StepIndex) (h : 48 ≤ t.toNat) : decodeStep t = .error (.noSuchStep t) := by
  unfold decodeStep
  rw [List.getElem?_eq_none (by rw [stepInstrs_length]; exact h)]

end Sys2Proof
end

