-- ==== Sys2Proof/Laws/State.lean ====
section
/-! SUPPORT. One lemma per field per update of the state, each true by unfolding, so that no later proof unfolds a record
update. -/

namespace Sys2Proof.Machine

@[simp] theorem State.respond_acc (st : Status) (d : Data) (s : State) : (s.respond st d).acc = s.acc := rfl
@[simp] theorem State.respond_buf (st : Status) (d : Data) (s : State) : (s.respond st d).buf = s.buf := rfl
@[simp] theorem State.respond_bufLen (st : Status) (d : Data) (s : State) : (s.respond st d).bufLen = s.bufLen := rfl
@[simp] theorem State.respond_cnt (st : Status) (d : Data) (s : State) : (s.respond st d).cnt = s.cnt := rfl
@[simp] theorem State.respond_x (st : Status) (d : Data) (s : State) : (s.respond st d).x = s.x := rfl
@[simp] theorem State.respond_v (st : Status) (d : Data) (s : State) : (s.respond st d).v = s.v := rfl
@[simp] theorem State.respond_seq (st : Status) (d : Data) (s : State) : (s.respond st d).seq = s.seq := rfl
@[simp] theorem State.respond_src (st : Status) (d : Data) (s : State) : (s.respond st d).src = s.src := rfl
@[simp] theorem State.respond_inputs (st : Status) (d : Data) (s : State) : (s.respond st d).inputs = s.inputs := rfl
@[simp] theorem State.respond_responses (st : Status) (d : Data) (s : State) : (s.respond st d).responses = s.responses ++ [⟨st, d⟩] := rfl

@[simp] theorem State.resetState_acc (s : State) : s.resetState.acc = iv := rfl
@[simp] theorem State.resetState_buf (s : State) : s.resetState.buf = zeroBuf := rfl
@[simp] theorem State.resetState_bufLen (s : State) : s.resetState.bufLen = 0 := rfl
@[simp] theorem State.resetState_cnt (s : State) : s.resetState.cnt = 0 := rfl
@[simp] theorem State.resetState_x (s : State) : s.resetState.x = s.x := rfl
@[simp] theorem State.resetState_v (s : State) : s.resetState.v = s.v := rfl
@[simp] theorem State.resetState_seq (s : State) : s.resetState.seq = s.seq := rfl
@[simp] theorem State.resetState_src (s : State) : s.resetState.src = s.src := rfl
@[simp] theorem State.resetState_inputs (s : State) : s.resetState.inputs = s.inputs := rfl
@[simp] theorem State.resetState_responses (s : State) : s.resetState.responses = s.responses := rfl

@[simp] theorem State.attach_acc (b : List Byte) (r : List Input) (s : State) : (s.attach b r).acc = s.acc := rfl
@[simp] theorem State.attach_buf (b : List Byte) (r : List Input) (s : State) : (s.attach b r).buf = s.buf := rfl
@[simp] theorem State.attach_bufLen (b : List Byte) (r : List Input) (s : State) : (s.attach b r).bufLen = s.bufLen := rfl
@[simp] theorem State.attach_cnt (b : List Byte) (r : List Input) (s : State) : (s.attach b r).cnt = s.cnt := rfl
@[simp] theorem State.attach_x (b : List Byte) (r : List Input) (s : State) : (s.attach b r).x = s.x := rfl
@[simp] theorem State.attach_v (b : List Byte) (r : List Input) (s : State) : (s.attach b r).v = s.v := rfl
@[simp] theorem State.attach_seq (b : List Byte) (r : List Input) (s : State) : (s.attach b r).seq = s.seq := rfl
@[simp] theorem State.attach_src (b : List Byte) (r : List Input) (s : State) : (s.attach b r).src = b := rfl
@[simp] theorem State.attach_inputs (b : List Byte) (r : List Input) (s : State) : (s.attach b r).inputs = r := rfl
@[simp] theorem State.attach_responses (b : List Byte) (r : List Input) (s : State) : (s.attach b r).responses = s.responses := rfl

@[simp] theorem State.withInputs_acc (r : List Input) (s : State) : (s.withInputs r).acc = s.acc := rfl
@[simp] theorem State.withInputs_buf (r : List Input) (s : State) : (s.withInputs r).buf = s.buf := rfl
@[simp] theorem State.withInputs_bufLen (r : List Input) (s : State) : (s.withInputs r).bufLen = s.bufLen := rfl
@[simp] theorem State.withInputs_cnt (r : List Input) (s : State) : (s.withInputs r).cnt = s.cnt := rfl
@[simp] theorem State.withInputs_x (r : List Input) (s : State) : (s.withInputs r).x = s.x := rfl
@[simp] theorem State.withInputs_v (r : List Input) (s : State) : (s.withInputs r).v = s.v := rfl
@[simp] theorem State.withInputs_seq (r : List Input) (s : State) : (s.withInputs r).seq = s.seq := rfl
@[simp] theorem State.withInputs_src (r : List Input) (s : State) : (s.withInputs r).src = s.src := rfl
@[simp] theorem State.withInputs_inputs (r : List Input) (s : State) : (s.withInputs r).inputs = r := rfl
@[simp] theorem State.withInputs_responses (r : List Input) (s : State) : (s.withInputs r).responses = s.responses := rfl

@[simp] theorem State.detach_acc (s : State) : s.detach.acc = s.acc := rfl
@[simp] theorem State.detach_buf (s : State) : s.detach.buf = s.buf := rfl
@[simp] theorem State.detach_bufLen (s : State) : s.detach.bufLen = s.bufLen := rfl
@[simp] theorem State.detach_cnt (s : State) : s.detach.cnt = s.cnt := rfl
@[simp] theorem State.detach_x (s : State) : s.detach.x = s.x := rfl
@[simp] theorem State.detach_v (s : State) : s.detach.v = s.v := rfl
@[simp] theorem State.detach_seq (s : State) : s.detach.seq = s.seq := rfl
@[simp] theorem State.detach_src (s : State) : s.detach.src = [] := rfl
@[simp] theorem State.detach_inputs (s : State) : s.detach.inputs = s.inputs := rfl
@[simp] theorem State.detach_responses (s : State) : s.detach.responses = s.responses := rfl

@[simp] theorem State.setWork_acc (a : Fin 4) (w : Word) (s : State) : (s.setWork a w).acc = s.acc := rfl
@[simp] theorem State.setWork_buf (a : Fin 4) (w : Word) (s : State) : (s.setWork a w).buf = s.buf := rfl
@[simp] theorem State.setWork_bufLen (a : Fin 4) (w : Word) (s : State) : (s.setWork a w).bufLen = s.bufLen := rfl
@[simp] theorem State.setWork_cnt (a : Fin 4) (w : Word) (s : State) : (s.setWork a w).cnt = s.cnt := rfl
@[simp] theorem State.setWork_x (a : Fin 4) (w : Word) (s : State) : (s.setWork a w).x = s.x := rfl
@[simp] theorem State.setWork_v (a : Fin 4) (w : Word) (s : State) : (s.setWork a w).v = s.v.set a w := rfl
@[simp] theorem State.setWork_seq (a : Fin 4) (w : Word) (s : State) : (s.setWork a w).seq = s.seq := rfl
@[simp] theorem State.setWork_src (a : Fin 4) (w : Word) (s : State) : (s.setWork a w).src = s.src := rfl
@[simp] theorem State.setWork_inputs (a : Fin 4) (w : Word) (s : State) : (s.setWork a w).inputs = s.inputs := rfl
@[simp] theorem State.setWork_responses (a : Fin 4) (w : Word) (s : State) : (s.setWork a w).responses = s.responses := rfl

@[simp] theorem State.advance_acc (t : Nat) (s : State) : (s.advance t).acc = s.acc := rfl
@[simp] theorem State.advance_buf (t : Nat) (s : State) : (s.advance t).buf = s.buf := rfl
@[simp] theorem State.advance_bufLen (t : Nat) (s : State) : (s.advance t).bufLen = s.bufLen := rfl
@[simp] theorem State.advance_cnt (t : Nat) (s : State) : (s.advance t).cnt = s.cnt := rfl
@[simp] theorem State.advance_x (t : Nat) (s : State) : (s.advance t).x = s.x := rfl
@[simp] theorem State.advance_v (t : Nat) (s : State) : (s.advance t).v = s.v := rfl
@[simp] theorem State.advance_seq (t : Nat) (s : State) : (s.advance t).seq = seqAfter t := rfl
@[simp] theorem State.advance_src (t : Nat) (s : State) : (s.advance t).src = s.src := rfl
@[simp] theorem State.advance_inputs (t : Nat) (s : State) : (s.advance t).inputs = s.inputs := rfl
@[simp] theorem State.advance_responses (t : Nat) (s : State) : (s.advance t).responses = s.responses := rfl

@[simp] theorem State.loadBlock_acc (s : State) : s.loadBlock.acc = s.acc := rfl
@[simp] theorem State.loadBlock_buf (s : State) : s.loadBlock.buf = s.buf := rfl
@[simp] theorem State.loadBlock_bufLen (s : State) : s.loadBlock.bufLen = s.bufLen := rfl
@[simp] theorem State.loadBlock_cnt (s : State) : s.loadBlock.cnt = s.cnt := rfl
@[simp] theorem State.loadBlock_x (s : State) : s.loadBlock.x = s.blockWords := rfl
@[simp] theorem State.loadBlock_v (s : State) : s.loadBlock.v = s.acc := rfl
@[simp] theorem State.loadBlock_seq (s : State) : s.loadBlock.seq = .step 0 := rfl
@[simp] theorem State.loadBlock_src (s : State) : s.loadBlock.src = s.src := rfl
@[simp] theorem State.loadBlock_inputs (s : State) : s.loadBlock.inputs = s.inputs := rfl
@[simp] theorem State.loadBlock_responses (s : State) : s.loadBlock.responses = s.responses := rfl

@[simp] theorem State.foldBlock_acc (s : State) : s.foldBlock.acc = s.feedForward := rfl
@[simp] theorem State.foldBlock_buf (s : State) : s.foldBlock.buf = zeroBuf := rfl
@[simp] theorem State.foldBlock_bufLen (s : State) : s.foldBlock.bufLen = 0 := rfl
@[simp] theorem State.foldBlock_cnt (s : State) : s.foldBlock.cnt = add64 s.cnt 64 := rfl
@[simp] theorem State.foldBlock_x (s : State) : s.foldBlock.x = zeroWords := rfl
@[simp] theorem State.foldBlock_v (s : State) : s.foldBlock.v = zeroWork := rfl
@[simp] theorem State.foldBlock_seq (s : State) : s.foldBlock.seq = .idle := rfl
@[simp] theorem State.foldBlock_src (s : State) : s.foldBlock.src = s.src := rfl
@[simp] theorem State.foldBlock_inputs (s : State) : s.foldBlock.inputs = s.inputs := rfl
@[simp] theorem State.foldBlock_responses (s : State) : s.foldBlock.responses = s.responses := rfl

@[simp] theorem State.pushByte_acc (b : Byte) (s : State) : (s.pushByte b).acc = s.acc := rfl
@[simp] theorem State.pushByte_buf (b : Byte) (s : State) : (s.pushByte b).buf = s.buf.setIfInBounds s.bufLen.toNat b := rfl
@[simp] theorem State.pushByte_bufLen (b : Byte) (s : State) : (s.pushByte b).bufLen = s.bufLen + 1 := rfl
@[simp] theorem State.pushByte_cnt (b : Byte) (s : State) : (s.pushByte b).cnt = s.cnt := rfl
@[simp] theorem State.pushByte_x (b : Byte) (s : State) : (s.pushByte b).x = s.x := rfl
@[simp] theorem State.pushByte_v (b : Byte) (s : State) : (s.pushByte b).v = s.v := rfl
@[simp] theorem State.pushByte_seq (b : Byte) (s : State) : (s.pushByte b).seq = s.seq := rfl
@[simp] theorem State.pushByte_src (b : Byte) (s : State) : (s.pushByte b).src = s.src := rfl
@[simp] theorem State.pushByte_inputs (b : Byte) (s : State) : (s.pushByte b).inputs = s.inputs := rfl
@[simp] theorem State.pushByte_responses (b : Byte) (s : State) : (s.pushByte b).responses = s.responses := rfl

@[simp] theorem State.hardwareReset_eq (s : State) : s.hardwareReset = s.resetState := rfl

end Sys2Proof.Machine
end

