-- ==== Sys2Proof/Laws/Ops.lean ====
section
/-! SUPPORT. What each shared operation can do, said once: the round operations, `Compress`, `Absorb`, `Validate`,
finalization, retiring a command, and a step. -/

namespace Sys2Proof.Machine

/-! Round operations write one working variable and nothing else (42_compression.md R147 to R149). -/

theorem op1_eq (a b c d : Fin 4) (k : Fin 16) (n : Nat) (s : State) : ∃ w, op1 a b c d k n s = s.setWork a w := ⟨_, rfl⟩

theorem op2_eq (a b c d : Fin 4) (k : Fin 16) (n : Nat) (s : State) : ∃ w, op2 a b c d k n s = s.setWork a w := ⟨_, rfl⟩

theorem op3_eq (a b c d : Fin 4) (k : Fin 16) (n : Nat) (s : State) : ∃ w, op3 a b c d k n s = s.setWork a w := ⟨_, rfl⟩

theorem roundOp_eq (r : Round) (a b c d : Fin 4) (k : Fin 16) (n : Nat) (s : State) :
    ∃ w, roundOp r a b c d k n s = s.setWork a w := by
  cases r
  · exact op1_eq a b c d k n s
  · exact op2_eq a b c d k n s
  · exact op3_eq a b c d k n s

theorem stepOp_eq (t : Nat) (s : State) : ∃ a w, stepOp t s = s.setWork a w := ⟨_, roundOp_eq _ _ _ _ _ _ _ s⟩

/-- Any sequence of step operations changes the working variables only. -/
theorem foldl_stepOp_eq (l : List Nat) (s : State) : ∃ w, l.foldl (fun u t => stepOp t u) s = { s with v := w } := by
  induction l generalizing s with
  | nil => exact ⟨s.v, rfl⟩
  | cons t l ih =>
    obtain ⟨a, w, h⟩ := stepOp_eq t s
    obtain ⟨w', h'⟩ := ih (s.setWork a w)
    exact ⟨w', by rw [List.foldl_cons, h, h']; rfl⟩

/-! `Compress` (R140): everything but the new accumulator. -/

/-- `Compress` is the end of a compression on some working variables, with the accumulator of before (R140, R142). -/
theorem State.compress_eq (s : State) : ∃ w, s.compress = ({ s.loadBlock with v := w } : State).foldBlock := by
  obtain ⟨w, h⟩ := foldl_stepOp_eq (List.range Config.steps) s.loadBlock
  exact ⟨w, by rw [State.compress, h]⟩

@[simp] theorem State.compress_buf (s : State) : s.compress.buf = zeroBuf := rfl
@[simp] theorem State.compress_bufLen (s : State) : s.compress.bufLen = 0 := rfl
@[simp] theorem State.compress_x (s : State) : s.compress.x = zeroWords := rfl
@[simp] theorem State.compress_v (s : State) : s.compress.v = zeroWork := rfl
@[simp] theorem State.compress_seq (s : State) : s.compress.seq = .idle := rfl

@[simp] theorem State.compress_cnt (s : State) : s.compress.cnt = add64 s.cnt 64 := by
  obtain ⟨w, h⟩ := s.compress_eq; rw [h]; rfl

@[simp] theorem State.compress_src (s : State) : s.compress.src = s.src := by
  obtain ⟨w, h⟩ := s.compress_eq; rw [h]; rfl

@[simp] theorem State.compress_inputs (s : State) : s.compress.inputs = s.inputs := by
  obtain ⟨w, h⟩ := s.compress_eq; rw [h]; rfl

@[simp] theorem State.compress_responses (s : State) : s.compress.responses = s.responses := by
  obtain ⟨w, h⟩ := s.compress_eq; rw [h]; rfl

/-! `Absorb` (41_update_buffering.md R120). -/

/-- `Absorb` stores the byte, and compresses exactly when the buffer held 63 bytes. -/
theorem absorb_eq (s : State) (b : Byte) :
    absorb s b = if s.bufLen = 63 then (s.pushByte b).compress else s.pushByte b := by
  have h : ((s.pushByte b).bufLen = 64) ↔ s.bufLen = 63 := by
    rw [State.pushByte_bufLen]; bv_omega
  simp only [absorb, h]

theorem absorb_of_full (s : State) (b : Byte) (h : s.bufLen = 63) : absorb s b = (s.pushByte b).compress := by
  rw [absorb_eq, if_pos h]

theorem absorb_of_room (s : State) (b : Byte) (h : s.bufLen ≠ 63) : absorb s b = s.pushByte b := by
  rw [absorb_eq, if_neg h]

@[simp] theorem absorb_src (s : State) (b : Byte) : (absorb s b).src = s.src := by
  rw [absorb_eq]; split <;> simp

@[simp] theorem absorb_inputs (s : State) (b : Byte) : (absorb s b).inputs = s.inputs := by
  rw [absorb_eq]; split <;> simp

@[simp] theorem absorb_responses (s : State) (b : Byte) : (absorb s b).responses = s.responses := by
  rw [absorb_eq]; split <;> simp

/-- `Absorb` restores its precondition (R120). -/
theorem absorb_lt (s : State) (b : Byte) (h : s.bufLen < 64) : (absorb s b).bufLen < 64 := by
  rw [absorb_eq]; split
  · simp
  · rw [State.pushByte_bufLen]; bv_omega

/-- A sequence of `Absorb` calls keeps the precondition, the source channel, the host's list and the responses. -/
theorem foldl_absorb_frame (bs : List Byte) (s : State) :
    (s.bufLen < 64 → (bs.foldl absorb s).bufLen < 64) ∧ (bs.foldl absorb s).src = s.src ∧
      (bs.foldl absorb s).inputs = s.inputs ∧ (bs.foldl absorb s).responses = s.responses := by
  induction bs generalizing s with
  | nil => exact ⟨id, rfl, rfl, rfl⟩
  | cons b bs ih =>
    obtain ⟨h1, h2, h3, h4⟩ := ih (absorb s b)
    exact ⟨fun h => h1 (absorb_lt s b h), by simpa using h2, by simpa using h3, by simpa using h4⟩

/-- `absorbAll` answers wherever `Absorb`'s precondition holds (R120). -/
theorem absorbAll_of_lt (bs : List Byte) (s : State) (h : s.bufLen < 64) : absorbAll bs s = some (bs.foldl absorb s) :=
  if_pos (.inr h)

@[simp] theorem absorbAll_nil (s : State) : absorbAll [] s = some s := if_pos (.inl rfl)

/-- Where it answers, the answer is the bytes absorbed one after another. -/
theorem absorbAll_some (bs : List Byte) (s t : State) (h : absorbAll bs s = some t) : t = bs.foldl absorb s := by
  unfold absorbAll at h
  split at h
  · exact (Option.some.inj h).symm
  · cases h

/-- The one way it does not answer. -/
theorem absorbAll_none (bs : List Byte) (s : State) : absorbAll bs s = none ↔ bs ≠ [] ∧ ¬ s.bufLen < 64 := by
  unfold absorbAll
  split
  · rename_i h
    simp only [reduceCtorEq, false_iff]
    tauto
  · rename_i h
    simp only [true_iff]
    tauto

/-! The commands built on it. -/

/-- What an update does once validation has passed. -/
theorem absorbAndRespond_of_lt (bs : List Byte) (s : State) (h : s.bufLen < 64) :
    absorbAndRespond bs s = .next ((bs.foldl absorb s).respond .ok 0) := by
  simp only [absorbAndRespond, absorbAll_of_lt bs s h, done]

theorem absorbAndRespond_next (bs : List Byte) (s t : State) (h : absorbAndRespond bs s = .next t) :
    t = (bs.foldl absorb s).respond .ok 0 := by
  unfold absorbAndRespond at h
  split at h
  · rename_i u hu
    rw [← absorbAll_some bs s u hu]
    simpa [done] using h.symm
  · cases h

theorem padding_ne_nil (s : State) : s.padding ≠ [] := by simp [State.padding]

/-- What `Finalize` does (43_finalize_padding.md R187). -/
theorem finalize_of_lt (s : State) (h : s.bufLen < 64) :
    finalize s = .next ((s.padding.foldl absorb s).resetState.respond .ok
      (packBytes (serialise (s.padding.foldl absorb s).acc))) := by
  simp only [finalize, absorbAll_of_lt s.padding s h]

theorem finalize_next (s t : State) (h : finalize s = .next t) :
    s.bufLen < 64 ∧ t = (s.padding.foldl absorb s).resetState.respond .ok
      (packBytes (serialise (s.padding.foldl absorb s).acc)) := by
  by_cases hl : s.bufLen < 64
  · rw [finalize_of_lt s hl] at h
    exact ⟨hl, by simpa using h.symm⟩
  · have := (absorbAll_none s.padding s).2 ⟨padding_ne_nil s, hl⟩
    simp [finalize, this] at h

/-- What a finalizing command with a source does once validation has passed (R189, R190). -/
theorem absorbAndFinalize_of_lt (bs : List Byte) (s : State) (h : s.bufLen < 64) :
    absorbAndFinalize bs s = finalize (bs.foldl absorb s) := by
  simp only [absorbAndFinalize, absorbAll_of_lt bs s h]

/-! `Validate` (41_update_buffering.md R122). -/

/-- Validation passes exactly with a source and a range inside it (60_exceptions.md R201, R202). -/
theorem validate_ok (sp : Bool) (n : Nat) (offset len : Int) :
    validate sp n offset len = .ok ↔ sp = true ∧ RangeValid n offset len := by
  unfold validate RangeValid
  cases sp
  · simp
  · simp only [Bool.true_eq_false, if_false, true_and]
    split_ifs <;> simp <;> omega

/-- What it answers otherwise (R203: an absent source first). -/
theorem validate_absent (n : Nat) (offset len : Int) : validate false n offset len = .invalidArgument := rfl

theorem validate_outOfRange (n : Nat) (offset len : Int) (h : ¬ RangeValid n offset len) :
    validate true n offset len = .outOfRange := by
  unfold RangeValid at h
  unfold validate
  split_ifs <;> first | rfl | omega

/-! Retiring a command (20_memory.md R65). -/

theorem retire_next (a : Answer) (t : State) (h : retire a = .next t) : ∃ u, a = .next u ∧ t = u.detach := by
  cases a with
  | next u => exact ⟨u, rfl, by simpa [retire] using h.symm⟩
  | fault f => cases h
  | refused r => cases h

/-! The limit on sources (20_memory.md R50). -/

/-- A source exists for a command exactly if the command takes none or the source is no longer than the limit. -/
theorem sourceFits_iff (srcMax : Nat) (i : Instr) (src : List Byte) :
    sourceFits srcMax i src = true ↔ (takesSource i = true → src.length ≤ srcMax) := by
  unfold sourceFits
  cases takesSource i <;> simp

/-! The step (70_reset_and_hazards.md R239): what it can do, by the sequencer and the host's list, for every `SRC_MAX`. -/

variable (srcMax : Nat)

theorem stepWith_load (s : State) (h : s.seq = .load) : stepWith srcMax s = .next s.loadBlock := by
  simp only [stepWith, h]

theorem stepWith_fold (s : State) (h : s.seq = .fold) : stepWith srcMax s = .next s.foldBlock := by
  simp only [stepWith, h]

theorem stepWith_index (s : State) (t : StepIndex) (h : s.seq = .step t) :
    stepWith srcMax s = runEncoded (.step t) s := by simp only [stepWith, h]

theorem stepWith_idle (s : State) (h : s.seq = .idle) : stepWith srcMax s = takeInput srcMax s := by
  simp only [stepWith, h]

/-- Inversion of `stepWith`: if it answers a next state, it was one of these. -/
theorem stepWith_cases (s t : State) (h : stepWith srcMax s = .next t) :
    (s.seq = .load ∧ t = s.loadBlock) ∨ (s.seq = .fold ∧ t = s.foldBlock) ∨
    (∃ k i, s.seq = .step k ∧ decode (.step k) = .ok i ∧ exec i s = .next t) ∨
    (s.seq = .idle ∧ s.inputs = [] ∧ t = s) ∨
    (∃ rest, s.seq = .idle ∧ s.inputs = .rst :: rest ∧ t = (s.withInputs rest).resetState) ∨
    (∃ w b rest u, s.seq = .idle ∧ s.inputs = .command w b :: rest ∧
      (takesSource (decodeCommand w) = true → b.length ≤ srcMax) ∧
      exec (decodeCommand w) (s.attach b rest) = .next u ∧ t = u.detach) := by
  rcases hs : s.seq with _ | _ | k | _
  · rw [stepWith_idle srcMax s hs] at h
    unfold takeInput at h
    split at h
    · rename_i hi
      exact .inr (.inr (.inr (.inl ⟨rfl, hi, by simpa using h.symm⟩)))
    · rename_i rest hi
      exact .inr (.inr (.inr (.inr (.inl ⟨rest, rfl, hi, by simpa using h.symm⟩))))
    · rename_i w b rest hi
      split at h
      · rename_i hb
        obtain ⟨u, hu, ht⟩ := retire_next _ _ h
        exact .inr (.inr (.inr (.inr (.inr
          ⟨w, b, rest, u, rfl, hi, (sourceFits_iff _ _ _).1 hb, by simpa [runEncoded, decode] using hu, ht⟩))))
      · cases h
  · rw [stepWith_load srcMax s hs] at h
    exact .inl ⟨rfl, by simpa using h.symm⟩
  · rw [stepWith_index srcMax s k hs] at h
    unfold runEncoded at h
    split at h
    · rename_i i hi
      exact .inr (.inr (.inl ⟨k, i, rfl, hi, h⟩))
    · cases h
  · rw [stepWith_fold srcMax s hs] at h
    exact .inr (.inl ⟨rfl, by simpa using h.symm⟩)

/-- `step` is `stepWith` at the default limit (00_scope.md R5). -/
theorem step_eq (s : State) : step s = stepWith Config.srcMaxDefault s := rfl

end Sys2Proof.Machine
end

