-- ==== Sys2Proof/Laws/PerInstr.lean ====
section
/-! SUPPORT. Facts proved per instruction. Family TableMatch: the canonical encoding of an instruction has the row's match
bits under the row's mask, both written here from spec/opcode_table.json. -/

namespace Sys2Proof.Laws

/-- The row's match value in spec/opcode_table.json. -/
def tableMatch : Instr → Nat
  | .length => 0x00
  | .reset => 0x01
  | .updateByte _ => 0x02
  | .updateAll _ => 0x03
  | .updateRange _ _ _ => 0x04
  | .digestAll _ => 0x05
  | .digestRange _ _ _ => 0x06
  | .digest => 0x07
  | .step00 => 0x00
  | .step01 => 0x01
  | .step02 => 0x02
  | .step03 => 0x03
  | .step04 => 0x04
  | .step05 => 0x05
  | .step06 => 0x06
  | .step07 => 0x07
  | .step08 => 0x08
  | .step09 => 0x09
  | .step10 => 0x0A
  | .step11 => 0x0B
  | .step12 => 0x0C
  | .step13 => 0x0D
  | .step14 => 0x0E
  | .step15 => 0x0F
  | .step16 => 0x10
  | .step17 => 0x11
  | .step18 => 0x12
  | .step19 => 0x13
  | .step20 => 0x14
  | .step21 => 0x15
  | .step22 => 0x16
  | .step23 => 0x17
  | .step24 => 0x18
  | .step25 => 0x19
  | .step26 => 0x1A
  | .step27 => 0x1B
  | .step28 => 0x1C
  | .step29 => 0x1D
  | .step30 => 0x1E
  | .step31 => 0x1F
  | .step32 => 0x20
  | .step33 => 0x21
  | .step34 => 0x22
  | .step35 => 0x23
  | .step36 => 0x24
  | .step37 => 0x25
  | .step38 => 0x26
  | .step39 => 0x27
  | .step40 => 0x28
  | .step41 => 0x29
  | .step42 => 0x2A
  | .step43 => 0x2B
  | .step44 => 0x2C
  | .step45 => 0x2D
  | .step46 => 0x2E
  | .step47 => 0x2F

/-- The word of an encoded instruction agrees with a match value under the table's mask: 0x7 for a command, 0x3F for a
step operation. -/
def matchesRow (e : Encoded) (m : Nat) : Prop :=
  match e with
  | .command w => w &&& 0x00000000000000007#68 = BitVec.ofNat 68 m
  | .step t => t &&& 0x3F#6 = BitVec.ofNat 6 m

/-- Under the mask 0x7 a packed word is its opcode. -/
theorem packWord_and_mask (op : BitVec 3) (sp : Bool) (o l : BitVec 32) :
    packWord op sp o l &&& 0x00000000000000007#68 = op.setWidth 68 := by
  ext i hi
  rw [← BitVec.getLsbD_eq_getElem, ← BitVec.getLsbD_eq_getElem, BitVec.getLsbD_and, packWord_getLsbD,
    BitVec.getLsbD_setWidth]
  by_cases h : i < 3
  · have : i = 0 ∨ i = 1 ∨ i = 2 := by omega
    rcases this with rfl | rfl | rfl <;> simp
  · have h1 : (0x00000000000000007#68).getLsbD i = false := by
      have : ∀ k : Fin 68, 3 ≤ k.val → (0x00000000000000007#68).getLsbD k.val = false := by decide
      exact this ⟨i, hi⟩ (Nat.le_of_not_lt h)
    rw [h1, BitVec.getLsbD_of_ge op i (by omega)]
    simp

/-- The family's statement about one instruction. -/
def TableMatch.Statement (i : Instr) : Prop := matchesRow (encode i) (tableMatch i)

theorem TableMatch.length : TableMatch.Statement (.length) := packWord_and_mask _ _ _ _
theorem TableMatch.reset : TableMatch.Statement (.reset) := packWord_and_mask _ _ _ _
theorem TableMatch.updateByte (data : Byte) : TableMatch.Statement (.updateByte data) := packWord_and_mask _ _ _ _
theorem TableMatch.updateAll (sp : Bool) : TableMatch.Statement (.updateAll sp) := packWord_and_mask _ _ _ _
theorem TableMatch.updateRange (sp : Bool) (offset len : Int) : TableMatch.Statement (.updateRange sp offset len) := packWord_and_mask _ _ _ _
theorem TableMatch.digestAll (sp : Bool) : TableMatch.Statement (.digestAll sp) := packWord_and_mask _ _ _ _
theorem TableMatch.digestRange (sp : Bool) (offset len : Int) : TableMatch.Statement (.digestRange sp offset len) := packWord_and_mask _ _ _ _
theorem TableMatch.digest : TableMatch.Statement (.digest) := packWord_and_mask _ _ _ _
theorem TableMatch.step00 : TableMatch.Statement .step00 := rfl
theorem TableMatch.step01 : TableMatch.Statement .step01 := rfl
theorem TableMatch.step02 : TableMatch.Statement .step02 := rfl
theorem TableMatch.step03 : TableMatch.Statement .step03 := rfl
theorem TableMatch.step04 : TableMatch.Statement .step04 := rfl
theorem TableMatch.step05 : TableMatch.Statement .step05 := rfl
theorem TableMatch.step06 : TableMatch.Statement .step06 := rfl
theorem TableMatch.step07 : TableMatch.Statement .step07 := rfl
theorem TableMatch.step08 : TableMatch.Statement .step08 := rfl
theorem TableMatch.step09 : TableMatch.Statement .step09 := rfl
theorem TableMatch.step10 : TableMatch.Statement .step10 := rfl
theorem TableMatch.step11 : TableMatch.Statement .step11 := rfl
theorem TableMatch.step12 : TableMatch.Statement .step12 := rfl
theorem TableMatch.step13 : TableMatch.Statement .step13 := rfl
theorem TableMatch.step14 : TableMatch.Statement .step14 := rfl
theorem TableMatch.step15 : TableMatch.Statement .step15 := rfl
theorem TableMatch.step16 : TableMatch.Statement .step16 := rfl
theorem TableMatch.step17 : TableMatch.Statement .step17 := rfl
theorem TableMatch.step18 : TableMatch.Statement .step18 := rfl
theorem TableMatch.step19 : TableMatch.Statement .step19 := rfl
theorem TableMatch.step20 : TableMatch.Statement .step20 := rfl
theorem TableMatch.step21 : TableMatch.Statement .step21 := rfl
theorem TableMatch.step22 : TableMatch.Statement .step22 := rfl
theorem TableMatch.step23 : TableMatch.Statement .step23 := rfl
theorem TableMatch.step24 : TableMatch.Statement .step24 := rfl
theorem TableMatch.step25 : TableMatch.Statement .step25 := rfl
theorem TableMatch.step26 : TableMatch.Statement .step26 := rfl
theorem TableMatch.step27 : TableMatch.Statement .step27 := rfl
theorem TableMatch.step28 : TableMatch.Statement .step28 := rfl
theorem TableMatch.step29 : TableMatch.Statement .step29 := rfl
theorem TableMatch.step30 : TableMatch.Statement .step30 := rfl
theorem TableMatch.step31 : TableMatch.Statement .step31 := rfl
theorem TableMatch.step32 : TableMatch.Statement .step32 := rfl
theorem TableMatch.step33 : TableMatch.Statement .step33 := rfl
theorem TableMatch.step34 : TableMatch.Statement .step34 := rfl
theorem TableMatch.step35 : TableMatch.Statement .step35 := rfl
theorem TableMatch.step36 : TableMatch.Statement .step36 := rfl
theorem TableMatch.step37 : TableMatch.Statement .step37 := rfl
theorem TableMatch.step38 : TableMatch.Statement .step38 := rfl
theorem TableMatch.step39 : TableMatch.Statement .step39 := rfl
theorem TableMatch.step40 : TableMatch.Statement .step40 := rfl
theorem TableMatch.step41 : TableMatch.Statement .step41 := rfl
theorem TableMatch.step42 : TableMatch.Statement .step42 := rfl
theorem TableMatch.step43 : TableMatch.Statement .step43 := rfl
theorem TableMatch.step44 : TableMatch.Statement .step44 := rfl
theorem TableMatch.step45 : TableMatch.Statement .step45 := rfl
theorem TableMatch.step46 : TableMatch.Statement .step46 := rfl
theorem TableMatch.step47 : TableMatch.Statement .step47 := rfl

end Sys2Proof.Laws
end

