-- ==== Sys2Proof/Tests/Slice0.lean ====
section
/-! SUPPORT. The model's own tests: expected results are the spec's (95_test_vectors.md, or the example of a rule, named at
each test), never the model's own answers. After them, one witness for the hypotheses of each statement that has any. -/

set_option Elab.async false

namespace Sys2Proof.Tests

open Sys2Proof.Machine

/-! ## Well-formedness: an ill-formed term for each check -/

theorem test_wf_offset_above : (Instr.updateRange true 2147483648 0).wf = false := by decide
theorem test_wf_offset_below : (Instr.updateRange true (-2147483649) 0).wf = false := by decide
theorem test_wf_length_above : (Instr.updateRange true 0 2147483648).wf = false := by decide
theorem test_wf_length_below : (Instr.updateRange true 0 (-2147483649)).wf = false := by decide
theorem test_wf_digest_offset_above : (Instr.digestRange true 2147483648 0).wf = false := by decide
theorem test_wf_digest_offset_below : (Instr.digestRange false (-2147483649) 0).wf = false := by decide
theorem test_wf_digest_length_above : (Instr.digestRange true 0 2147483648).wf = false := by decide
theorem test_wf_digest_length_below : (Instr.digestRange true 0 (-2147483649)).wf = false := by decide

/-! ## Decoding: words written out from the encoding (30_encoding.md R80, R82, R83; 95_test_vectors.md section 2) -/

/-- op 000 with every ignored bit set: `W = 0xFFFFFFFFFFFFFFFF8`. -/
theorem test_decode_length : decodeCommand 0xFFFFFFFFFFFFFFFF8#68 = .length := by decide
/-- op 001, `sp` set and ignored. -/
theorem test_decode_reset : decodeCommand 0x00000000000000009#68 = .reset := by decide
/-- op 010, `data = W[11:4] = 0x61`, everything else ignored. -/
theorem test_decode_updateByte : decodeCommand 0x123456780ABCDE61A#68 = .updateByte 0x61 := by decide
/-- op 011 with `sp`, the operand fields ignored. -/
theorem test_decode_updateAll : decodeCommand 0xFFFFFFFFFFFFFFFFB#68 = .updateAll true := by decide
/-- op 100: `offset = 0x80000000`, `length = 0x7FFFFFFF`. -/
theorem test_decode_updateRange :
    decodeCommand 0x7FFFFFFF80000000C#68 = .updateRange true (-2147483648) 2147483647 := by decide
/-- op 101 without a source. -/
theorem test_decode_digestAll : decodeCommand 0x00000000000000005#68 = .digestAll false := by decide
/-- op 110: `offset = 16`, `length = 64`. -/
theorem test_decode_digestRange : decodeCommand 0x0000004000000010E#68 = .digestRange true 16 64 := by decide
/-- op 111 with every bit set. -/
theorem test_decode_digest : decodeCommand 0xFFFFFFFFFFFFFFFFF#68 = .digest := by decide
/-- The encoder against the words of the spec's table. -/
theorem test_encode_words :
    [Instr.length, .reset, .updateByte 0xFF, .updateAll false, .updateRange true 60 20, .updateRange true (-1) 4,
      .digestAll true, .digestRange true 16 64, .digest].map encode =
    [0x00000000000000000#68, 0x00000000000000001#68, 0x00000000000000FF2#68, 0x00000000000000003#68,
      0x000000140000003CC#68, 0x00000004FFFFFFFFC#68, 0x0000000000000000D#68, 0x0000004000000010E#68,
      0x00000000000000007#68].map Encoded.command := by decide

/-- The indices of round 1 (R90, R154), written out in binary. -/
theorem test_decode_steps_round1 : ∀ p ∈ ([
    (0b000000#6, .step00), (0b000001#6, .step01), (0b000010#6, .step02), (0b000011#6, .step03),
    (0b000100#6, .step04), (0b000101#6, .step05), (0b000110#6, .step06), (0b000111#6, .step07),
    (0b001000#6, .step08), (0b001001#6, .step09), (0b001010#6, .step10), (0b001011#6, .step11),
    (0b001100#6, .step12), (0b001101#6, .step13), (0b001110#6, .step14), (0b001111#6, .step15)] : List (StepIndex × Instr)),
    decodeStep p.1 = .ok p.2 := by decide

/-- The indices of round 2 (R90, R154), written out in binary. -/
theorem test_decode_steps_round2 : ∀ p ∈ ([
    (0b010000#6, .step16), (0b010001#6, .step17), (0b010010#6, .step18), (0b010011#6, .step19),
    (0b010100#6, .step20), (0b010101#6, .step21), (0b010110#6, .step22), (0b010111#6, .step23),
    (0b011000#6, .step24), (0b011001#6, .step25), (0b011010#6, .step26), (0b011011#6, .step27),
    (0b011100#6, .step28), (0b011101#6, .step29), (0b011110#6, .step30), (0b011111#6, .step31)] : List (StepIndex × Instr)),
    decodeStep p.1 = .ok p.2 := by decide

/-- The indices of round 3 (R90, R154), written out in binary. -/
theorem test_decode_steps_round3 : ∀ p ∈ ([
    (0b100000#6, .step32), (0b100001#6, .step33), (0b100010#6, .step34), (0b100011#6, .step35),
    (0b100100#6, .step36), (0b100101#6, .step37), (0b100110#6, .step38), (0b100111#6, .step39),
    (0b101000#6, .step40), (0b101001#6, .step41), (0b101010#6, .step42), (0b101011#6, .step43),
    (0b101100#6, .step44), (0b101101#6, .step45), (0b101110#6, .step46), (0b101111#6, .step47)] : List (StepIndex × Instr)),
    decodeStep p.1 = .ok p.2 := by decide

theorem test_decode_no_step_48 : decodeStep 0b110000#6 = .error (.noSuchStep 48) := by decide

/-! ## Helpers: small states, and what an answer holds -/

/-- The reset engine after absorbing some bytes. -/
def fed (bs : List Byte) : State := bs.foldl absorb State.reset

/-- The reset engine with a source on the channel. -/
def withSrc (src : List Byte) (s : State) : State := { s with src := src }

/-- The 80 bytes `0x00` to `0x4F` of programs P2 and P7. -/
def src80 : List Byte := (List.range 80).map (BitVec.ofNat 8)

/-- The text of the document's fourth vector. -/
def messageDigest : List Byte := [0x6d, 0x65, 0x73, 0x73, 0x61, 0x67, 0x65, 0x20, 0x64, 0x69, 0x67, 0x65, 0x73, 0x74]

/-- The last response of an answer, with its status code. -/
def lastOf (a : Answer) : Option (BitVec 2 × Data) :=
  match a with
  | .next s => s.responses.getLast?.map fun r => (r.status.code, r.data)
  | _ => none

/-- The bytes of the last response's data. -/
def digestOf (a : Answer) : Option (BitVec 2 × List Byte) := (lastOf a).map fun p => (p.1, dataBytes p.2)

/-- `acc`, `cnt` and `bufLen` of an answer. -/
def regsOf (a : Answer) : Option (List Word × Nat × Nat) :=
  match a with
  | .next s => some (s.acc.toList, s.cnt.toNat, s.bufLen.toNat)
  | _ => none

/-- The buffer bytes below `bufLen` of an answer. -/
def pendingOf (a : Answer) : Option (List Byte) :=
  match a with
  | .next s => some s.pending
  | _ => none

/-- The working variables and the sequencer of an answer. -/
def workOf (a : Answer) : Option (List Word × Seq) :=
  match a with
  | .next s => some (s.v.toList, s.seq)
  | _ => none

/-- Whether an answer is a next state. -/
def isNext (a : Answer) : Bool :=
  match a with
  | .next _ => true
  | _ => false

theorem exists_of_isNext (a : Answer) (h : isNext a = true) : ∃ t, a = .next t := by
  cases a with
  | next t => exact ⟨t, rfl⟩
  | fault f => cases h
  | refused r => cases h

/-! ## The commands (programs P1 to P7, and the document's own digests of section 1) -/

/-- P4 command 8: `LENGTH` in mid-computation answers 128. -/
theorem test_length_answer : lastOf (exec .length (fed [0x61])) = some (0, 0x80#128) := by decide +kernel
theorem test_length_state : regsOf (exec .length (fed [0x61])) =
    some ([0x67452301, 0xEFCDAB89, 0x98BADCFE, 0x10325476], 0, 1) := by decide +kernel
/-- P7 command 2. -/
theorem test_reset_state : regsOf (exec .reset (fed src80)) =
    some ([0x67452301, 0xEFCDAB89, 0x98BADCFE, 0x10325476], 0, 0) := by decide +kernel
/-- P1 commands 2 to 4 end with `61 62 63`. -/
theorem test_updateByte_stores : pendingOf (exec (.updateByte 0x63) (fed [0x61, 0x62])) = some [0x61, 0x62, 0x63] := by
  decide +kernel
/-- The 64th byte compresses: `I(64)` of section 4. -/
theorem test_updateByte_compresses : regsOf (exec (.updateByte 0x3F) (fed (src80.take 63))) =
    some ([0x4ECABFD4, 0xA26EF3A6, 0xC90C1563, 0xDB599A46], 64, 0) := by decide +kernel
/-- P7 command 1. -/
theorem test_updateAll : regsOf (exec (.updateAll true) (withSrc src80 State.reset)) =
    some ([0x4ECABFD4, 0xA26EF3A6, 0xC90C1563, 0xDB599A46], 64, 16) := by decide +kernel
/-- P2 command 2: a range that crosses a block boundary. -/
theorem test_updateRange_regs : regsOf (exec (.updateRange true 60 20) (withSrc src80 (fed (src80.take 60)))) =
    some ([0x4ECABFD4, 0xA26EF3A6, 0xC90C1563, 0xDB599A46], 64, 16) := by decide +kernel
theorem test_updateRange_pending : pendingOf (exec (.updateRange true 60 20) (withSrc src80 (fed (src80.take 60)))) =
    some [0x40, 0x41, 0x42, 0x43, 0x44, 0x45, 0x46, 0x47, 0x48, 0x49, 0x4a, 0x4b, 0x4c, 0x4d, 0x4e, 0x4f] := by
  decide +kernel
/-- The document's third vector, `"abc"`. -/
theorem test_digest_abc : digestOf (exec .digest (fed [0x61, 0x62, 0x63])) =
    some (0, [0xa4, 0x48, 0x01, 0x7a, 0xaf, 0x21, 0xd8, 0x52, 0x5f, 0xc1, 0x0a, 0xe8, 0x7a, 0xa6, 0x72, 0x9d]) := by
  decide +kernel
/-- P5: 56 bytes `0x61`, the extra padding block. -/
theorem test_digest_extra_block : digestOf (exec .digest (fed (List.replicate 56 0x61))) =
    some (0, [0xd5, 0xf9, 0xa9, 0xe9, 0x25, 0x70, 0x77, 0xa5, 0xf0, 0x8b, 0x0b, 0x92, 0xf3, 0x48, 0xb0, 0xad]) := by
  decide +kernel
/-- The document's fourth vector, `"message digest"`. -/
theorem test_digestAll_message : digestOf (exec (.digestAll true) (withSrc messageDigest State.reset)) =
    some (0, [0xd9, 0x13, 0x0a, 0x81, 0x64, 0x54, 0x9f, 0xe8, 0x18, 0x87, 0x48, 0x06, 0xe1, 0xc7, 0x01, 0x4b]) := by
  decide +kernel
/-- P3 command 10: the failed `DIGEST_ALL null` neither finalizes nor resets. -/
theorem test_digestAll_absent : lastOf (exec (.digestAll false) (fed [0x6d])) = some (1, 0) ∧
    pendingOf (exec (.digestAll false) (fed [0x6d])) = some [0x6d] := by decide +kernel
/-- P2 command 5. -/
theorem test_digestRange : digestOf (exec (.digestRange true 16 64) (withSrc src80 State.reset)) =
    some (0, [0x8c, 0xd7, 0x32, 0xb4, 0x02, 0xb5, 0x47, 0x75, 0x62, 0xff, 0x6c, 0xd9, 0xbb, 0x97, 0x47, 0xd1]) := by
  decide +kernel
/-- P3 command 9. -/
theorem test_digestRange_outOfRange : lastOf (exec (.digestRange true 1 14) (withSrc messageDigest (fed [0x6d]))) =
    some (2, 0) ∧ pendingOf (exec (.digestRange true 1 14) (withSrc messageDigest (fed [0x6d]))) = some [0x6d] := by
  decide +kernel

/-! ## Validation: the twenty rows of 95_test_vectors.md section 7 -/

theorem test_validate : ∀ p ∈ ([
    (false, 0, 0, 0, .invalidArgument), (false, 0, -1, -1, .invalidArgument), (true, 0, 0, 0, .ok),
    (true, 0, 0, 1, .outOfRange), (true, 0, 1, 0, .outOfRange), (true, 14, 0, 14, .ok),
    (true, 14, 14, 0, .ok), (true, 14, 15, 0, .outOfRange), (true, 14, 1, 14, .outOfRange),
    (true, 14, 13, 1, .ok), (true, 14, -1, 4, .outOfRange), (true, 14, -1, 0, .outOfRange),
    (true, 14, 2, -1, .outOfRange), (true, 14, 0, -2147483648, .outOfRange), (true, 14, -2147483648, 2147483647, .outOfRange),
    (true, 14, 2147483647, 2147483647, .outOfRange), (true, 14, 2147483647, 1, .outOfRange), (true, 2147483647, 0, 2147483647, .ok),
    (true, 2147483647, 2147483647, 0, .ok), (true, 2147483647, 1, 2147483647, .outOfRange)] : List (Bool × Nat × Int × Int × Status)),
    validate p.1 p.2.1 p.2.2.1 p.2.2.2.1 = p.2.2.2.2 := by decide

/-! ## Round operators and whole compressions (95_test_vectors.md section 5) -/

theorem test_rotl32 : ∀ p ∈ ([
    (0x00000001, 3, 0x00000008), (0x80000000, 1, 0x00000001), (0x80000001, 3, 0x0000000C), (0x12345678, 19, 0xB3C091A2),
    (0xFFFFFFFF, 15, 0xFFFFFFFF), (0x00000000, 7, 0x00000000), (0xDEADBEEF, 13, 0xB7DDFBD5), (0x00000001, 31, 0x80000000),
    (0x0000007F, 3, 0x000003F8), (0x89ABCDEF, 5, 0x3579BDF1), (0x89ABCDEF, 9, 0x579BDF13), (0x89ABCDEF, 11, 0x5E6F7C4D)] : List (Word × Nat × Word)), rotl32 p.1 p.2.1 = p.2.2 := by decide

theorem test_mixing : ([
    (0xF0F0F0F0, 0xCCCCCCCC, 0xAAAAAAAA, 0xCACACACA, 0xE8E8E8E8, 0x96969696),
    (0xFFFFFFFF, 0x12345678, 0x9ABCDEF0, 0x12345678, 0x9ABCDEF8, 0x77777777),
    (0x00000000, 0x12345678, 0x9ABCDEF0, 0x9ABCDEF0, 0x12345670, 0x88888888),
    (0xEFCDAB89, 0x98BADCFE, 0x10325476, 0x98BADCFE, 0x98BADCFE, 0x67452301),
    (0x00000000, 0x00000000, 0x00000000, 0x00000000, 0x00000000, 0x00000000),
    (0xFFFFFFFF, 0xFFFFFFFF, 0xFFFFFFFF, 0xFFFFFFFF, 0xFFFFFFFF, 0xFFFFFFFF),
    (0x12345678, 0x12345678, 0x9ABCDEF0, 0x9ABCDEF8, 0x12345678, 0x9ABCDEF0),
    (0x0F0F0F0F, 0xFFFFFFFF, 0x00000000, 0x0F0F0F0F, 0x0F0F0F0F, 0xF0F0F0F0)] : List (Word × Word × Word × Word × Word × Word)).all (fun p =>
    mixF p.1 p.2.1 p.2.2.1 == p.2.2.2.1 && mixG p.1 p.2.1 p.2.2.1 == p.2.2.2.2.1 && mixH p.1 p.2.1 p.2.2.1 == p.2.2.2.2.2) = true := by
  decide +kernel

/-- A state with a full buffer. -/
def fullBuf (acc : Vector Word 4) (buf : Vector Byte 64) : State :=
  { State.reset with acc := acc, buf := buf, bufLen := 64, seq := .load }

theorem test_compress_zero : (fullBuf iv (Vector.replicate 64 0x00)).compress.acc.toList =
    [0x015155EF, 0x2E5F67AB, 0x3681C98D, 0x7447AB15] := by decide +kernel
theorem test_compress_ones : (fullBuf iv (Vector.replicate 64 0xFF)).compress.acc.toList =
    [0xB05A96AB, 0xC389B094, 0x0159CE0F, 0xB49638ED] := by decide +kernel
theorem test_compress_acc_zero : (fullBuf (Vector.replicate 4 0) (Vector.replicate 64 0x00)).compress.acc.toList =
    [0x33C84836, 0xC19152D1, 0xE762D9DF, 0xA20027BD] := by decide +kernel
theorem test_compress_acc_ones : (fullBuf (Vector.replicate 4 0xFFFFFFFF) (Vector.replicate 64 0xFF)).compress.acc.toList =
    [0x11E8CE1B, 0x510ECD5A, 0x304BDEEE, 0x63F79F0A] := by decide +kernel

/-! ## The step operations: the trace of 95_test_vectors.md section 3.2, one step from each row to the next -/

/-- The compressor in the block of `"abc"` (`X[0] = 0x80636261`, `X[14] = 0x18`) with given working variables. -/
def traceState (v : Vector Word 4) : State :=
  { State.reset with x := (zeroWords.set 0 0x80636261#32).set 14 0x18#32, v := v, bufLen := 64 }

theorem test_trace_round1 : ∀ p ∈ ([
    (.step00, #v[0x67452301, 0xEFCDAB89, 0x98BADCFE, 0x10325476], [0x031B1304, 0xEFCDAB89, 0x98BADCFE, 0x10325476], .step 1),
    (.step01, #v[0x031B1304, 0xEFCDAB89, 0x98BADCFE, 0x10325476], [0x031B1304, 0xEFCDAB89, 0x98BADCFE, 0xEE123855], .step 2),
    (.step02, #v[0x031B1304, 0xEFCDAB89, 0x98BADCFE, 0xEE123855], [0x031B1304, 0xEFCDAB89, 0xD38454E4, 0xEE123855], .step 3),
    (.step03, #v[0x031B1304, 0xEFCDAB89, 0xD38454E4, 0xEE123855], [0x031B1304, 0xF66D8F45, 0xD38454E4, 0xEE123855], .step 4),
    (.step04, #v[0x031B1304, 0xF66D8F45, 0xD38454E4, 0xEE123855], [0xE98A3AC6, 0xF66D8F45, 0xD38454E4, 0xEE123855], .step 5),
    (.step05, #v[0xE98A3AC6, 0xF66D8F45, 0xD38454E4, 0xEE123855], [0xE98A3AC6, 0xF66D8F45, 0xD38454E4, 0x0F435CF0], .step 6),
    (.step06, #v[0xE98A3AC6, 0xF66D8F45, 0xD38454E4, 0x0F435CF0], [0xE98A3AC6, 0xF66D8F45, 0x97854E65, 0x0F435CF0], .step 7),
    (.step07, #v[0xE98A3AC6, 0xF66D8F45, 0x97854E65, 0x0F435CF0], [0xE98A3AC6, 0x613B2BC8, 0x97854E65, 0x0F435CF0], .step 8),
    (.step08, #v[0xE98A3AC6, 0x613B2BC8, 0x97854E65, 0x0F435CF0], [0xC65CC9B7, 0x613B2BC8, 0x97854E65, 0x0F435CF0], .step 9),
    (.step09, #v[0xC65CC9B7, 0x613B2BC8, 0x97854E65, 0x0F435CF0], [0xC65CC9B7, 0x613B2BC8, 0x97854E65, 0x6E365830], .step 10),
    (.step10, #v[0xC65CC9B7, 0x613B2BC8, 0x97854E65, 0x6E365830], [0xC65CC9B7, 0x613B2BC8, 0x15D2EEF5, 0x6E365830], .step 11),
    (.step11, #v[0xC65CC9B7, 0x613B2BC8, 0x15D2EEF5, 0x6E365830], [0xC65CC9B7, 0xA7D13ACB, 0x15D2EEF5, 0x6E365830], .step 12),
    (.step12, #v[0xC65CC9B7, 0xA7D13ACB, 0x15D2EEF5, 0x6E365830], [0xA299A540, 0xA7D13ACB, 0x15D2EEF5, 0x6E365830], .step 13),
    (.step13, #v[0xA299A540, 0xA7D13ACB, 0x15D2EEF5, 0x6E365830], [0xA299A540, 0xA7D13ACB, 0x15D2EEF5, 0x04E19293], .step 14),
    (.step14, #v[0xA299A540, 0xA7D13ACB, 0x15D2EEF5, 0x04E19293], [0xA299A540, 0xA7D13ACB, 0x24BAADCB, 0x04E19293], .step 15),
    (.step15, #v[0xA299A540, 0xA7D13ACB, 0x24BAADCB, 0x04E19293], [0xA299A540, 0xDA717395, 0x24BAADCB, 0x04E19293], .step 16)] : List (Instr × Vector Word 4 × List Word × Seq)),
    workOf (exec p.1 (traceState p.2.1)) = some (p.2.2.1, p.2.2.2) := by decide +kernel

theorem test_trace_round2 : ∀ p ∈ ([
    (.step16, #v[0xA299A540, 0xDA717395, 0x24BAADCB, 0x04E19293], [0x1389A66C, 0xDA717395, 0x24BAADCB, 0x04E19293], .step 17),
    (.step17, #v[0x1389A66C, 0xDA717395, 0x24BAADCB, 0x04E19293], [0x1389A66C, 0xDA717395, 0x24BAADCB, 0x43B67F2E], .step 18),
    (.step18, #v[0x1389A66C, 0xDA717395, 0x24BAADCB, 0x43B67F2E], [0x1389A66C, 0xDA717395, 0xDD3D21A5, 0x43B67F2E], .step 19),
    (.step19, #v[0x1389A66C, 0xDA717395, 0xDD3D21A5, 0x43B67F2E], [0x1389A66C, 0x228B5116, 0xDD3D21A5, 0x43B67F2E], .step 20),
    (.step20, #v[0x1389A66C, 0x228B5116, 0xDD3D21A5, 0x43B67F2E], [0x8E5C895D, 0x228B5116, 0xDD3D21A5, 0x43B67F2E], .step 21),
    (.step21, #v[0x8E5C895D, 0x228B5116, 0xDD3D21A5, 0x43B67F2E], [0x8E5C895D, 0x228B5116, 0xDD3D21A5, 0x8ABF3B85], .step 22),
    (.step22, #v[0x8E5C895D, 0x228B5116, 0xDD3D21A5, 0x8ABF3B85], [0x8E5C895D, 0x228B5116, 0xBD68A784, 0x8ABF3B85], .step 23),
    (.step23, #v[0x8E5C895D, 0x228B5116, 0xBD68A784, 0x8ABF3B85], [0x8E5C895D, 0x4EC68171, 0xBD68A784, 0x8ABF3B85], .step 24),
    (.step24, #v[0x8E5C895D, 0x4EC68171, 0xBD68A784, 0x8ABF3B85], [0xBE6D33DB, 0x4EC68171, 0xBD68A784, 0x8ABF3B85], .step 25),
    (.step25, #v[0xBE6D33DB, 0x4EC68171, 0xBD68A784, 0x8ABF3B85], [0xBE6D33DB, 0x4EC68171, 0xBD68A784, 0x75CB1DF4], .step 26),
    (.step26, #v[0xBE6D33DB, 0x4EC68171, 0xBD68A784, 0x75CB1DF4], [0xBE6D33DB, 0x4EC68171, 0x74661D2D, 0x75CB1DF4], .step 27),
    (.step27, #v[0xBE6D33DB, 0x4EC68171, 0x74661D2D, 0x75CB1DF4], [0xBE6D33DB, 0x0323E3B7, 0x74661D2D, 0x75CB1DF4], .step 28),
    (.step28, #v[0xBE6D33DB, 0x0323E3B7, 0x74661D2D, 0x75CB1DF4], [0x7296594C, 0x0323E3B7, 0x74661D2D, 0x75CB1DF4], .step 29),
    (.step29, #v[0x7296594C, 0x0323E3B7, 0x74661D2D, 0x75CB1DF4], [0x7296594C, 0x0323E3B7, 0x74661D2D, 0x4E7E1748], .step 30),
    (.step30, #v[0x7296594C, 0x0323E3B7, 0x74661D2D, 0x4E7E1748], [0x7296594C, 0x0323E3B7, 0x3DD42422, 0x4E7E1748], .step 31),
    (.step31, #v[0x7296594C, 0x0323E3B7, 0x3DD42422, 0x4E7E1748], [0x7296594C, 0x8E531B8F, 0x3DD42422, 0x4E7E1748], .step 32)] : List (Instr × Vector Word 4 × List Word × Seq)),
    workOf (exec p.1 (traceState p.2.1)) = some (p.2.2.1, p.2.2.2) := by decide +kernel

theorem test_trace_round3 : ∀ p ∈ ([
    (.step32, #v[0x7296594C, 0x8E531B8F, 0x3DD42422, 0x4E7E1748], [0xFE66819A, 0x8E531B8F, 0x3DD42422, 0x4E7E1748], .step 33),
    (.step33, #v[0xFE66819A, 0x8E531B8F, 0x3DD42422, 0x4E7E1748], [0xFE66819A, 0x8E531B8F, 0x3DD42422, 0x73824016], .step 34),
    (.step34, #v[0xFE66819A, 0x8E531B8F, 0x3DD42422, 0x73824016], [0xFE66819A, 0x8E531B8F, 0x2F4E3583, 0x73824016], .step 35),
    (.step35, #v[0xFE66819A, 0x8E531B8F, 0x2F4E3583, 0x73824016], [0xFE66819A, 0xFD9FCFEB, 0x2F4E3583, 0x73824016], .step 36),
    (.step36, #v[0xFE66819A, 0xFD9FCFEB, 0x2F4E3583, 0x73824016], [0x74A13DC8, 0xFD9FCFEB, 0x2F4E3583, 0x73824016], .step 37),
    (.step37, #v[0x74A13DC8, 0xFD9FCFEB, 0x2F4E3583, 0x73824016], [0x74A13DC8, 0xFD9FCFEB, 0x2F4E3583, 0x99E6AF11], .step 38),
    (.step38, #v[0x74A13DC8, 0xFD9FCFEB, 0x2F4E3583, 0x99E6AF11], [0x74A13DC8, 0xFD9FCFEB, 0x03F2B578, 0x99E6AF11], .step 39),
    (.step39, #v[0x74A13DC8, 0xFD9FCFEB, 0x03F2B578, 0x99E6AF11], [0x74A13DC8, 0x71A2AD97, 0x03F2B578, 0x99E6AF11], .step 40),
    (.step40, #v[0x74A13DC8, 0x71A2AD97, 0x03F2B578, 0x99E6AF11], [0x798F0B3E, 0x71A2AD97, 0x03F2B578, 0x99E6AF11], .step 41),
    (.step41, #v[0x798F0B3E, 0x71A2AD97, 0x03F2B578, 0x99E6AF11], [0x798F0B3E, 0x71A2AD97, 0x03F2B578, 0x3F5D0629], .step 42),
    (.step42, #v[0x798F0B3E, 0x71A2AD97, 0x03F2B578, 0x3F5D0629], [0x798F0B3E, 0x71A2AD97, 0xEA0CCD51, 0x3F5D0629], .step 43),
    (.step43, #v[0x798F0B3E, 0x71A2AD97, 0xEA0CCD51, 0x3F5D0629], [0x798F0B3E, 0xACBF46AD, 0xEA0CCD51, 0x3F5D0629], .step 44),
    (.step44, #v[0x798F0B3E, 0xACBF46AD, 0xEA0CCD51, 0x3F5D0629], [0x12BC25A3, 0xACBF46AD, 0xEA0CCD51, 0x3F5D0629], .step 45),
    (.step45, #v[0x12BC25A3, 0xACBF46AD, 0xEA0CCD51, 0x3F5D0629], [0x12BC25A3, 0xACBF46AD, 0xEA0CCD51, 0x8D405204], .step 46),
    (.step46, #v[0x12BC25A3, 0xACBF46AD, 0xEA0CCD51, 0x8D405204], [0x12BC25A3, 0xACBF46AD, 0x4F4FE461, 0x8D405204], .step 47),
    (.step47, #v[0x12BC25A3, 0xACBF46AD, 0x4F4FE461, 0x8D405204], [0x12BC25A3, 0x630A7626, 0x4F4FE461, 0x8D405204], .fold)] : List (Instr × Vector Word 4 × List Word × Seq)),
    workOf (exec p.1 (traceState p.2.1)) = some (p.2.2.1, p.2.2.2) := by decide +kernel

/-! ## The padding unit alone (95_test_vectors.md section 6) -/

theorem test_padding : ∀ p ∈ ([
    (0x0, 0, 55, 0x0000000000000000, [0x00, 0x00, 0x00, 0x00, 0x00, 0x00, 0x00, 0x00]),
    (0x0, 1, 54, 0x0000000000000008, [0x08, 0x00, 0x00, 0x00, 0x00, 0x00, 0x00, 0x00]),
    (0x0, 3, 52, 0x0000000000000018, [0x18, 0x00, 0x00, 0x00, 0x00, 0x00, 0x00, 0x00]),
    (0x0, 55, 0, 0x00000000000001B8, [0xb8, 0x01, 0x00, 0x00, 0x00, 0x00, 0x00, 0x00]),
    (0x0, 56, 63, 0x00000000000001C0, [0xc0, 0x01, 0x00, 0x00, 0x00, 0x00, 0x00, 0x00]),
    (0x0, 63, 56, 0x00000000000001F8, [0xf8, 0x01, 0x00, 0x00, 0x00, 0x00, 0x00, 0x00]),
    (0x40, 0, 55, 0x0000000000000200, [0x00, 0x02, 0x00, 0x00, 0x00, 0x00, 0x00, 0x00]),
    (0x40, 56, 63, 0x00000000000003C0, [0xc0, 0x03, 0x00, 0x00, 0x00, 0x00, 0x00, 0x00]),
    (0x1FFFFFC0, 63, 56, 0x00000000FFFFFFF8, [0xf8, 0xff, 0xff, 0xff, 0x00, 0x00, 0x00, 0x00]),
    (0x20000000, 0, 55, 0x0000000100000000, [0x00, 0x00, 0x00, 0x00, 0x01, 0x00, 0x00, 0x00]),
    (0xFFFFFFC0, 0, 55, 0x00000007FFFFFE00, [0x00, 0xfe, 0xff, 0xff, 0x07, 0x00, 0x00, 0x00]),
    (0x100000000, 0, 55, 0x0000000800000000, [0x00, 0x00, 0x00, 0x00, 0x08, 0x00, 0x00, 0x00]),
    (0x1FFFFFFFFFFFFFC0, 63, 56, 0xFFFFFFFFFFFFFFF8, [0xf8, 0xff, 0xff, 0xff, 0xff, 0xff, 0xff, 0xff]),
    (0x2000000000000000, 0, 55, 0x0000000000000000, [0x00, 0x00, 0x00, 0x00, 0x00, 0x00, 0x00, 0x00]),
    (0x2000000000000000, 5, 50, 0x0000000000000028, [0x28, 0x00, 0x00, 0x00, 0x00, 0x00, 0x00, 0x00]),
    (0xFFFFFFFFFFFFFFC0, 0, 55, 0xFFFFFFFFFFFFFE00, [0x00, 0xfe, 0xff, 0xff, 0xff, 0xff, 0xff, 0xff]),
    (0xFFFFFFFFFFFFFFC0, 63, 56, 0xFFFFFFFFFFFFFFF8, [0xf8, 0xff, 0xff, 0xff, 0xff, 0xff, 0xff, 0xff])] : List (Count × BitVec 7 × Nat × Count × List Byte)),
    let s : State := { State.reset with cnt := p.1, bufLen := p.2.1 }
    s.bitLen = p.2.2.2.1 ∧ s.padding = 0x80#8 :: (List.replicate p.2.2.1 0x00#8 ++ p.2.2.2.2) := by decide +kernel

/-! ## The reference function against the document's digests and two longer ones (sections 1, 4) -/

theorem test_reference_empty : refDigest [] =
    [0x31, 0xd6, 0xcf, 0xe0, 0xd1, 0x6a, 0xe9, 0x31, 0xb7, 0x3c, 0x59, 0xd7, 0xe0, 0xc0, 0x89, 0xc0] := by decide +kernel
theorem test_reference_a : refDigest [0x61] =
    [0xbd, 0xe5, 0x2c, 0xb3, 0x1d, 0xe3, 0x3e, 0x46, 0x24, 0x5e, 0x05, 0xfb, 0xdb, 0xd6, 0xfb, 0x24] := by decide +kernel
theorem test_reference_message : refDigest messageDigest =
    [0xd9, 0x13, 0x0a, 0x81, 0x64, 0x54, 0x9f, 0xe8, 0x18, 0x87, 0x48, 0x06, 0xe1, 0xc7, 0x01, 0x4b] := by decide +kernel
theorem test_reference_80 : refDigest src80 =
    [0x37, 0x85, 0x42, 0x75, 0x34, 0x3f, 0x07, 0x9b, 0xce, 0x16, 0x39, 0xc8, 0x4d, 0x74, 0xae, 0x1c] := by decide +kernel

/-! ## One step of the machine -/

/-- A word placed from the opcode table runs as the first instruction after reset. -/
theorem test_fetch_digest : digestOf (step (State.reset.withFetchWord 72 7)) =
    some (0, [0x31, 0xd6, 0xcf, 0xe0, 0xd1, 0x6a, 0xe9, 0x31, 0xb7, 0x3c, 0x59, 0xd7, 0xe0, 0xc0, 0x89, 0xc0]) := by
  decide +kernel
theorem test_fetch_step17 : workOf (step ((traceState #v[0x1389A66C, 0xDA717395, 0x24BAADCB, 0x04E19293]).withFetchWord 8 17)) =
    some ([0x1389A66C, 0xDA717395, 0x24BAADCB, 0x43B67F2E], .step 18) := by decide +kernel
theorem test_table_word : decodeTableWord 72 0x612 = some (.updateByte 0x61) ∧ decodeTableWord 8 0x2F = some .step47 ∧
    decodeTableWord 8 0x30 = none := by decide
/-- A presented command is retired: its source is gone from the next state (R65). -/
theorem test_step_retires :
    (match step { State.reset with inputs := [.command 0x0000000000000000B#68 [0x61, 0x62]] } with
      | .next s => (s.src, s.pending, s.inputs)
      | _ => ([0], [0], [])) = ([], [0x61, 0x62], []) := by decide +kernel
/-- A source longer than `SRC_MAX` stops a command that takes it (R50), and no command that takes none (R84), not even one
with `sp = 0` (R201: status 1). -/
theorem test_limit_takes : stepWith 0 { State.reset with inputs := [.command 0x0000000000000000B#68 [0x61]] } =
    .refused .sourceTooLarge := rfl
theorem test_limit_takes_none : (([0x00000000000000008#68, 0x00000000000000003#68] : List CmdWord).map fun w =>
    lastOf (stepWith 0 { State.reset with inputs := [.command w [0x61]] })) = [some (0, 128), some (1, 0)] := by decide +kernel
/-- The end of the compression of section 3.1 (R155): the feed-forward of the empty message. -/
theorem test_fold : regsOf (step { fullBuf iv zeroBuf with
      seq := .fold, v := #v[0x798AB330, 0x421BBF48, 0x3E9E5FB9, 0xB0576C6A], cnt := 0xFFFFFFFFFFFFFFC0 }) =
    some ([0xE0CFD631, 0x31E96AD1, 0xD7593CB7, 0xC089C0E0], 0, 0) := by decide +kernel

/-! ## Witnesses: for each statement with hypotheses, a state and operands that meet them all -/

theorem witness_DecodeOfEncodeIsTheInstruction :
    (Instr.updateRange true (-2147483648) 2147483647).wf = true ∧ Instr.step47.wf = true := by decide
theorem witness_IgnoredFieldsDoNotMatter :
    ((0x00000000000000000#68).extractLsb' 0 3 = (0xFFFFFFFFFFFFFFFF8#68).extractLsb' 0 3 ∧
      (0x00000000000000000#68).extractLsb' 0 3 = 0) ∧
    ((0x00000000000000612#68).extractLsb' 0 3 = (0x123456780ABCDE61A#68).extractLsb' 0 3 ∧
      (0x00000000000000612#68).extractLsb' 0 3 = 2 ∧
      (0x00000000000000612#68).extractLsb' 4 8 = (0x123456780ABCDE61A#68).extractLsb' 4 8) ∧
    ((0x0000000000000000B#68).extractLsb' 0 3 = (0xFFFFFFFFFFFFFFFFB#68).extractLsb' 0 3 ∧
      (0x0000000000000000B#68).extractLsb' 0 3 = 3 ∧
      (0x0000000000000000B#68).getLsbD 3 = (0xFFFFFFFFFFFFFFFFB#68).getLsbD 3) := by decide
theorem witness_StepIndexDecodesBelowFortyEight : (47#6).toNat < 48 ∧ 48 ≤ (48#6).toNat := by decide
theorem witness_DecodedInstructionsAreWellFormed :
    decode (.command 0x7FFFFFFF80000000C#68) = .ok (.updateRange true (-2147483648) 2147483647) := rfl

/-- A state inside a compression meets the invariant. -/
def midway : State := { fullBuf iv zeroBuf with seq := .step 47 }

theorem midway_inv : midway.Inv where
  counter := by decide
  tail := by intro i hi; exact absurd hi (by decide +revert)
  noSource := rfl
  between := by intro h; cases h
  during := by intro _; rfl
  index := by intro t h; cases h; decide

theorem reset_inv : State.reset.Inv where
  counter := by decide
  tail := by unfold State.TailZero; decide
  noSource := rfl
  between := by intro _; exact ⟨by unfold State.Accepting; decide, rfl, rfl⟩
  during := by intro h; exact absurd rfl h
  index := by intro t h; cases h

theorem witness_EveryStepKeepsTheInvariant :
    (State.reset.Inv ∧ ∃ t, step State.reset = .next t) ∧ (midway.Inv ∧ ∃ t, step midway = .next t) :=
  ⟨⟨reset_inv, exists_of_isNext _ (by decide +kernel)⟩, midway_inv, exists_of_isNext _ (by decide +kernel)⟩
/-- A command with its source, presented to the reset engine. -/
def presented : State := { State.reset with inputs := [.command 0x0000000000000000B#68 [0x61]] }
theorem presented_inv : presented.Inv := ⟨reset_inv.1, reset_inv.2, rfl, reset_inv.4, reset_inv.5, reset_inv.6⟩
/-- With `SRC_MAX` as small as the source. -/
theorem witness_NoStepStopsUnderTheInvariant :
    (midway.Inv ∧ ∀ w src rest, midway.inputs = Input.command w src :: rest →
      takesSource (decodeCommand w) = true → src.length ≤ 0) ∧
    (presented.Inv ∧ ∀ w src rest, presented.inputs = Input.command w src :: rest →
      takesSource (decodeCommand w) = true → src.length ≤ 1) :=
  ⟨⟨midway_inv, by intro w src rest h; cases h⟩, presented_inv, by intro w src rest h _; cases h; decide⟩
theorem witness_StepRunsThePresentedCommand :
    presented.seq = .idle ∧ presented.inputs = [.command 0x0000000000000000B#68 [0x61]] ∧
      takesSource (.updateAll true) = true ∧ ([0x61] : List Byte).length ≤ 1 ∧ 1 ≤ Config.srcMaxDefault ∧ decode (.command 0x0000000000000000B#68) = .ok (.updateAll true) ∧
      (Instr.updateAll true).wf = true := ⟨rfl, rfl, rfl, by decide, by decide, rfl, rfl⟩
theorem witness_StepRunsTheIndexedOperation :
    midway.seq = .step 47 ∧ decode (.step 47) = .ok .step47 ∧ Instr.step47.wf = true := ⟨rfl, rfl, rfl⟩
theorem witness_StepRefusesAnIndexThatNeverOccurs :
    ({ State.reset with seq := .step 48 } : State).seq = .step 48 ∧ 48 ≤ (48#6).toNat := ⟨rfl, by decide⟩
theorem witness_HardwareResetInputResets :
    ({ fed [0x61] with inputs := [.rst] } : State).seq = .idle ∧ ({ fed [0x61] with inputs := [.rst] } : State).inputs = .rst :: [] :=
  ⟨rfl, rfl⟩
theorem witness_TheEngineHoldsItsState : (fed [0x61]).seq = .idle ∧ (fed [0x61]).inputs = [] := ⟨rfl, rfl⟩
theorem witness_DeliveredResponsesStay : ∃ t, step presented = .next t := exists_of_isNext _ (by decide +kernel)
theorem witness_LengthAnswers128 : (0xFFFFFFFFFFFFFFFF8#68).extractLsb' 0 3 = 0 := by decide
theorem witness_ResetCommandReinitialises : (0x00000000000000009#68).extractLsb' 0 3 = 1 := by decide
theorem witness_UpdateByteStoresTheByte : (fed (src80.take 62)).bufLen.toNat < 63 := by decide +kernel
theorem witness_UpdateByteCompressesAFullBuffer : (fed (src80.take 63)).bufLen.toNat = 63 := by decide +kernel
/-- The boundary states of `Accepting`. -/
theorem witness_Accepting : State.reset.Accepting ∧ (fed (src80.take 63)).Accepting := by
  unfold State.Accepting; decide +kernel
theorem witness_UpdateAllAbsorbsTheSource : (withSrc src80 (fed (src80.take 63))).Accepting := by
  unfold State.Accepting; decide +kernel
theorem witness_UpdateRangeAbsorbsTheRange : (withSrc src80 (fed (src80.take 63))).Accepting ∧ (0 : Int) ≤ 79 ∧ (0 : Int) ≤ 1 ∧
    (79 : Int) + 1 ≤ ((withSrc src80 (fed (src80.take 63))).src.length : Int) := by
  unfold State.Accepting; decide +kernel
theorem witness_UpdateOfNoBytesOnlyResponds : State.reset.src = [] ∧ (0 : Int) ≤ 80 ∧
    (80 : Int) ≤ ((withSrc src80 State.reset).src.length : Int) := by decide
theorem witness_BadRangeIsOutOfRange :
    (-1 : Int) < 0 ∧ (15 : Int) + 0 > ((withSrc messageDigest State.reset).src.length : Int) ∧
    ∃ t, exec (.updateRange true 15 0) (withSrc messageDigest State.reset) = .next t ∧
      t.responses = (withSrc messageDigest State.reset).responses ++ [⟨.outOfRange, 0⟩] :=
  ⟨by decide, by decide, _, rfl, rfl⟩
theorem witness_EveryCommandRespondsOnceWithItsStatus :
    isCommand (.digestRange true 16 64) = true ∧ ∃ t, exec (.digestRange true 16 64) (withSrc src80 State.reset) = .next t :=
  ⟨rfl, exists_of_isNext _ (by decide +kernel)⟩
theorem witness_AbsorbingNeedsRoom : 64 ≤ (withSrc [0x61] (fullBuf iv zeroBuf)).bufLen.toNat ∧
    (withSrc [0x61] (fullBuf iv zeroBuf)).src ≠ [] ∧ (0 : Int) + 1 ≤ ((withSrc [0x61] (fullBuf iv zeroBuf)).src.length : Int) := by
  decide
theorem witness_UpdateRangeIsThatManyByteUpdates : (withSrc src80 (fed [0x61])).Accepting ∧ (0 : Int) ≤ 0 ∧ (0 : Int) ≤ 80 ∧
    (0 : Int) + 80 ≤ ((withSrc src80 (fed [0x61])).src.length : Int) := by
  unfold State.Accepting; decide +kernel
theorem witness_SourceBytesOutsideTheRangeAreNotRead :
    ([0xFF, 0x61] : List Byte).length = (withSrc [0x00, 0x61] State.reset).src.length ∧
    (∀ k, k < (1 : Int).toNat →
      ([0xFF, 0x61] : List Byte)[(1 : Int).toNat + k]? = (withSrc [0x00, 0x61] State.reset).src[(1 : Int).toNat + k]?) ∧
    ∃ t, exec (.updateRange true 1 1) (withSrc [0x00, 0x61] State.reset) = .next t :=
  ⟨rfl, by intro k hk; have : k = 0 := by simp at hk; omega
           subst this; rfl, exists_of_isNext _ (by decide +kernel)⟩
/-- The same engine but for a buffer byte beyond `bufLen` and a working variable. -/
def fedJunk : State := { fed [0x61] with buf := (fed [0x61]).buf.set 5 0xAA, v := iv }
theorem witness_UnobservableStateHasNoInfluence :
    fedJunk.acc = (fed [0x61]).acc ∧ fedJunk.bufLen = (fed [0x61]).bufLen ∧ fedJunk.cnt = (fed [0x61]).cnt ∧
    fedJunk.pending = (fed [0x61]).pending ∧ fedJunk.src = (fed [0x61]).src ∧
    fedJunk.responses = (fed [0x61]).responses ∧ isNext (exec .digest (fed [0x61])) = true := by decide +kernel
theorem witness_ScheduleRuleGivesTheTable : stepInstrs[0]? = some .step00 ∧ stepInstrs[47]? = some .step47 := by decide
theorem witness_RotationMovesEveryBit : (1 ≤ 1 ∧ 1 ≤ 31) ∧ (1 ≤ 31 ∧ 31 ≤ 31) ∧ 31 < 32 := by decide
theorem witness_LoadPhaseDecodesAndCopies : (fullBuf iv zeroBuf).seq = .load := rfl
theorem witness_FoldPhaseEndsTheCompression : ({ fullBuf iv zeroBuf with seq := .fold } : State).seq = .fold := rfl
theorem witness_SteppingThroughACompressionIsCompress : (fullBuf iv zeroBuf).seq = .load := rfl
theorem witness_PaddingLengthByBufferLength :
    ((fed (src80.take 55)).Accepting ∧ (fed (src80.take 55)).bufLen.toNat ≤ 55) ∧
    ((fed (src80.take 56)).Accepting ∧ 56 ≤ (fed (src80.take 56)).bufLen.toNat) := by
  unfold State.Accepting; decide +kernel
theorem witness_PaddingSequenceBytes : (fed (src80.take 54)).Accepting ∧ 1 ≤ 1 ∧ 1 ≤ (fed (src80.take 54)).padLen - 9 ∧ 7 < 8 := by
  unfold State.Accepting; decide +kernel
theorem witness_PaddingEmptiesTheBuffer : (fed (src80.take 56)).Accepting := by unfold State.Accepting; decide +kernel
theorem witness_DigestFinalizes : (fed (src80.take 55)).Accepting := by unfold State.Accepting; decide +kernel
theorem witness_DigestAllAbsorbsAndFinalizes : (withSrc src80 (fed (src80.take 55))).Accepting := by
  unfold State.Accepting; decide +kernel
theorem witness_DigestRangeAbsorbsAndFinalizes : (withSrc src80 (fed [0x61])).Accepting ∧ (0 : Int) ≤ 80 ∧ (0 : Int) ≤ 0 ∧
    (80 : Int) + 0 ≤ ((withSrc src80 (fed [0x61])).src.length : Int) := by
  unfold State.Accepting; decide +kernel
theorem witness_DigestAllIsUpdateAllThenDigest : (withSrc src80 (fed [0x61])).Accepting := by
  unfold State.Accepting; decide +kernel
theorem witness_FinalizingResetsOrFailsUnchanged : (∃ t, exec .digest (fed [0x61]) = .next t) ∧
    ∃ t, exec (.digestAll false) (fed [0x61]) = .next t :=
  ⟨exists_of_isNext _ (by decide +kernel), exists_of_isNext _ (by decide +kernel)⟩
theorem witness_SecondDigestIsOfTheEmptyInput : ∃ t, exec .digest (fed [0x61]) = .next t :=
  exists_of_isNext _ (by decide +kernel)
theorem witness_DigestOfAnIdleEngineIsTheMessageDigest : (withSrc src80 State.reset).Idle := by
  unfold State.Idle; decide
/-- Two chunks, one of them empty, and `DIGEST`, presented to the reset engine. -/
def twoChunks : State := { State.reset with
  inputs := ([[0x61, 0x62], []] : List (List Byte)).map (fun c => .command 0x0000000000000000B#68 c) ++
    .command 0x00000000000000007#68 [] :: [] }
theorem witness_ChunkingDoesNotChangeTheDigest : twoChunks.Idle ∧ twoChunks.seq = .idle ∧
    (∀ c ∈ ([[0x61, 0x62], []] : List (List Byte)), c.length ≤ 2) := by
  unfold State.Idle; decide
/-- From Idle, and from an accepting state that is not; the last clause of each kind at a boundary of its range. -/
theorem witness_LogicalStateTransitions : (withSrc [0x61] State.reset).Idle ∧
    (withSrc src80 (fed (src80.take 63))).Accepting ∧ (withSrc src80 (fed (src80.take 63))).src ≠ [] ∧
    (fed (src80.take 63)).cnt.toNat + (fed (src80.take 63)).bufLen.toNat + 80 < 2 ^ 64 ∧
    ((0 : Int) ≤ 79 ∧ (1 : Int) ≤ 1 ∧ (79 : Int) + 1 ≤ ((withSrc src80 State.reset).src.length : Int)) ∧
    ((0 : Int) ≤ 80 ∧ (80 : Int) ≤ ((withSrc src80 State.reset).src.length : Int)) ∧ State.reset.src = [] := by
  unfold State.Idle State.Accepting; decide +kernel
theorem witness_LogicalStateTransitions_answers :
    (∀ i ∈ ([.length, .reset, .updateByte 0x61, .updateAll true, .updateRange true 79 1, .updateRange true 80 0] : List Instr),
      isNext (exec i (withSrc src80 (fed (src80.take 63)))) = true) ∧ isNext (exec (.updateAll true) State.reset) = true ∧
    (∀ i ∈ ([.digest, .digestAll true, .digestRange true 79 1] : List Instr),
      (lastOf (exec i (withSrc src80 State.reset))).map (·.1) = some 0) ∧
    lastOf (exec (.digestRange true 80 1) (withSrc src80 State.reset)) = some (2, 0) := by decide +kernel
theorem witness_TransientsRestBetweenCommands : (fed [0x61]).seq = .idle ∧ (fed [0x61]).x = zeroWords ∧
    (fed [0x61]).v = zeroWork ∧ isNext (exec .digest (fed [0x61])) = true := by decide +kernel
/-- Two engines, one with a command presented. -/
def pair : Platform 2 := ⟨#v[presented, fed [0x61]], by decide⟩
theorem witness_InstancesDoNotInterfere : (0 : Fin 2) ≠ 1 ∧ isNext (stepWith 1 pair.engines[0]) = true ∧
    isNext (stepWith 1 pair.engines[1]) = true := by decide +kernel
/-- A command that takes no source but has one attached (R84) meets the premise at any two limits; so does a source that
both limits admit. -/
theorem witness_TheLimitBoundsSourcesAndNothingElse : takesSource (decodeCommand 0x00000000000000008#68) = false ∧
    (∀ w src rest, presented.inputs = Input.command w src :: rest → takesSource (decodeCommand w) = true →
      (src.length ≤ 1 ↔ src.length ≤ 2)) := ⟨rfl, by intro w src rest h _; cases h; decide⟩
theorem witness_TheLimitBoundsSourcesAndNothingElse_refused : presented.seq = .idle ∧
    presented.inputs = [.command 0x0000000000000000B#68 [0x61]] ∧
    takesSource (decodeCommand 0x0000000000000000B#68) = true ∧ 0 < ([0x61] : List Byte).length := ⟨rfl, rfl, rfl, by decide⟩

end Sys2Proof.Tests
end

section
/-! The host's next action at any `SRC_MAX` (00_scope.md R5), and what the limit decides. -/

namespace Sys2Proof.Machine

theorem takeInput_nil (srcMax : Nat) (s : State) (h : s.inputs = []) : takeInput srcMax s = .next s := by
  simp only [takeInput, h]

theorem takeInput_rst (srcMax : Nat) (s : State) (rest : List Input) (h : s.inputs = .rst :: rest) :
    takeInput srcMax s = .next (s.withInputs rest).hardwareReset := by
  simp only [takeInput, h]

theorem takeInput_command (srcMax : Nat) (s : State) (w : CmdWord) (src : List Byte) (rest : List Input)
    (h : s.inputs = .command w src :: rest) :
    takeInput srcMax s =
      if sourceFits srcMax (decodeCommand w) src then retire (runEncoded (.command w) (s.attach src rest))
      else .refused .sourceTooLarge := by
  simp only [takeInput, h]

/-- Two limits admit the same sources for an instruction that takes none, and for a source on the same side of both. -/
theorem sourceFits_congr (m n : Nat) (i : Instr) (src : List Byte)
    (h : takesSource i = true → (src.length ≤ m ↔ src.length ≤ n)) : sourceFits m i src = sourceFits n i src :=
  Bool.eq_iff_iff.2 <| by rw [sourceFits_iff, sourceFits_iff]; exact forall_congr' h

/-- The host's action reads the limit only in `sourceFits`, so limits that admit the same source act alike. -/
theorem takeInput_congr (m n : Nat) (s : State)
    (h : ∀ w src rest, s.inputs = .command w src :: rest → takesSource (decodeCommand w) = true →
      (src.length ≤ m ↔ src.length ≤ n)) : takeInput m s = takeInput n s := by
  match hi : s.inputs with
  | [] => rw [takeInput_nil m s hi, takeInput_nil n s hi]
  | .rst :: rest => rw [takeInput_rst m s rest hi, takeInput_rst n s rest hi]
  | .command w src :: rest =>
    have hfits := sourceFits_congr m n (decodeCommand w) src (h w src rest hi)
    rw [takeInput_command m s w src rest hi, takeInput_command n s w src rest hi, hfits]

/-- No phase of a compression reads the limit; between commands the step is the host's action. -/
theorem stepWith_congr (m n : Nat) (s : State)
    (h : ∀ w src rest, s.inputs = .command w src :: rest → takesSource (decodeCommand w) = true →
      (src.length ≤ m ↔ src.length ≤ n)) : stepWith m s = stepWith n s := by
  match hs : s.seq with
  | .idle => rw [stepWith_idle m s hs, stepWith_idle n s hs, takeInput_congr m n s h]
  | .load => rw [stepWith_load m s hs, stepWith_load n s hs]
  | .step t => rw [stepWith_index m s t hs, stepWith_index n s t hs]
  | .fold => rw [stepWith_fold m s hs, stepWith_fold n s hs]

/-- A source longer than the limit does not exist for a command that takes one (20_memory.md R50; log entry 10). -/
theorem stepWith_sourceTooLarge (srcMax : Nat) (s : State) (w : CmdWord) (src : List Byte) (rest : List Input)
    (hs : s.seq = .idle) (hi : s.inputs = .command w src :: rest) (ht : takesSource (decodeCommand w) = true)
    (hlen : srcMax < src.length) : stepWith srcMax s = .refused .sourceTooLarge := by
  have hfits : ¬ sourceFits srcMax (decodeCommand w) src = true := fun hf =>
    absurd ((sourceFits_iff srcMax _ src).1 hf ht) (by omega)
  rw [stepWith_idle srcMax s hs, takeInput_command srcMax s w src rest hi, if_neg hfits]

/-- The host's machine is the parametrised one at the default limit (00_scope.md R5). -/
theorem core_eq_coreWith : Sys2Proof.core = coreWith Config.srcMaxDefault := rfl

/-- Settles O60: a step reads `SRC_MAX` only in `sourceFits`. -/
theorem theLimitBoundsSourcesAndNothingElse : Obligations.TheLimitBoundsSourcesAndNothingElse :=
  ⟨stepWith_congr, stepWith_sourceTooLarge, core_eq_coreWith, step_eq⟩

end Sys2Proof.Machine
end

section
/-! What a command does, said once for all eight: it responds, resets, or absorbs some bytes and then responds or
finalizes. A property kept by these is kept by every command. -/

namespace Sys2Proof.Machine

theorem execUpdateRange_eq (sp : Bool) (offset len : Int) (s : State) :
    execUpdateRange sp offset len s =
      if validate sp s.srcSize offset len = .ok then absorbAndRespond (s.sourceRange offset len) s
      else raise (validate sp s.srcSize offset len) s := by
  unfold execUpdateRange
  cases validate sp s.srcSize offset len <;> rfl

theorem execDigestRange_eq (sp : Bool) (offset len : Int) (s : State) :
    execDigestRange sp offset len s =
      if validate sp s.srcSize offset len = .ok then absorbAndFinalize (s.sourceRange offset len) s
      else raise (validate sp s.srcSize offset len) s := by
  unfold execDigestRange
  cases validate sp s.srcSize offset len <;> rfl

/-- `DIGEST` absorbs no byte before it finalizes (43_finalize_padding.md R188). -/
theorem absorbAndFinalize_nil (s : State) : absorbAndFinalize [] s = finalize s := by
  simp only [absorbAndFinalize, absorbAll_nil]

/-- Where the absorbing half of a finalizing command answers, the rest is `Finalize` of what it left. -/
theorem absorbAndFinalize_next (bs : List Byte) (s t : State) (h : absorbAndFinalize bs s = .next t) :
    finalize (bs.foldl absorb s) = .next t := by
  unfold absorbAndFinalize at h
  split at h
  · rename_i u hu
    rwa [← absorbAll_some bs s u hu]
  · cases h

/-- The command port decodes to commands only (30_encoding.md R82). -/
theorem isCommand_decodeCommand (w : CmdWord) : isCommand (decodeCommand w) = true := by
  unfold decodeCommand
  split <;> rfl

/-- Which of four things a command does, and with which bytes, depends on the command and its source alone. -/
theorem exec_command_cases (i : Instr) (hi : isCommand i = true) (src : List Byte) :
    (∃ st d, ∀ s : State, s.src = src → exec i s = .next (s.respond st d)) ∨
    (∀ s : State, s.src = src → exec i s = .next (s.resetState.respond .ok 0)) ∨
    (∃ bs, ∀ s : State, s.src = src → exec i s = absorbAndRespond bs s) ∨
    (∃ bs, ∀ s : State, s.src = src → exec i s = absorbAndFinalize bs s) := by
  match i, hi with
  | .length, _ => exact .inl ⟨_, _, fun _ _ => rfl⟩
  | .reset, _ => exact .inr (.inl fun _ _ => rfl)
  | .updateByte b, _ => exact .inr (.inr (.inl ⟨[b], fun _ _ => rfl⟩))
  | .updateAll false, _ => exact .inl ⟨.invalidArgument, 0, fun _ _ => rfl⟩
  | .updateAll true, _ => exact .inr (.inr (.inl ⟨src, fun _ hs => hs ▸ rfl⟩))
  | .updateRange sp offset len, _ =>
    by_cases hv : validate sp src.length offset len = .ok
    · exact .inr (.inr (.inl ⟨(src.drop offset.toNat).take len.toNat, by
        rintro s rfl; exact (execUpdateRange_eq sp offset len s).trans (if_pos hv)⟩))
    · exact .inl ⟨validate sp src.length offset len, 0, by
        rintro s rfl; exact (execUpdateRange_eq sp offset len s).trans (if_neg hv)⟩
  | .digestAll false, _ => exact .inl ⟨.invalidArgument, 0, fun _ _ => rfl⟩
  | .digestAll true, _ => exact .inr (.inr (.inr ⟨src, fun _ hs => hs ▸ rfl⟩))
  | .digestRange sp offset len, _ =>
    by_cases hv : validate sp src.length offset len = .ok
    · exact .inr (.inr (.inr ⟨(src.drop offset.toNat).take len.toNat, by
        rintro s rfl; exact (execDigestRange_eq sp offset len s).trans (if_pos hv)⟩))
    · exact .inl ⟨validate sp src.length offset len, 0, by
        rintro s rfl; exact (execDigestRange_eq sp offset len s).trans (if_neg hv)⟩
  | .digest, _ => exact .inr (.inr (.inr ⟨[], fun s _ => (absorbAndFinalize_nil s).symm⟩))

/-- A property of states that the parts of a command keep. -/
structure KeptByCommandParts (P : State → Prop) : Prop where
  respond : ∀ (st : Status) (d : Data) (s : State), P s → P (s.respond st d)
  resetState : ∀ s : State, P s → P s.resetState
  absorb : ∀ (s : State) (b : Byte), P s → P (absorb s b)

theorem KeptByCommandParts.foldl_absorb {P : State → Prop} (hP : KeptByCommandParts P) (bs : List Byte) (s : State)
    (hs : P s) : P (bs.foldl Machine.absorb s) := by
  induction bs generalizing s with
  | nil => exact hs
  | cons b bs ih => exact ih _ (hP.absorb s b hs)

theorem KeptByCommandParts.finalize {P : State → Prop} (hP : KeptByCommandParts P) (s t : State) (hs : P s)
    (h : finalize s = .next t) : P t := by
  obtain ⟨-, rfl⟩ := finalize_next s t h
  exact hP.respond _ _ _ (hP.resetState _ (hP.foldl_absorb _ s hs))

/-- What the parts of a command keep, every command keeps. -/
theorem KeptByCommandParts.exec {P : State → Prop} (hP : KeptByCommandParts P) (i : Instr) (s t : State)
    (hi : isCommand i = true) (hs : P s) (h : exec i s = .next t) : P t := by
  rcases exec_command_cases i hi s.src with ⟨st, d, hx⟩ | hx | ⟨bs, hx⟩ | ⟨bs, hx⟩ <;> rw [hx s rfl] at h
  · cases h
    exact hP.respond _ _ _ hs
  · cases h
    exact hP.respond _ _ _ (hP.resetState _ hs)
  · rw [absorbAndRespond_next bs s t h]
    exact hP.respond _ _ _ (hP.foldl_absorb bs s hs)
  · exact hP.finalize _ t (hP.foldl_absorb bs s hs) (absorbAndFinalize_next bs s t h)

end Sys2Proof.Machine
end

section
/-! The invariant of 10_state.md R26: at reset, through a command, and through the phases of a compression. -/

namespace Sys2Proof.Machine

/-- No compression is in progress and the transients have their resting values (log entry 1). -/
def State.AtRest (s : State) : Prop := s.seq = .idle ∧ s.x = zeroWords ∧ s.v = zeroWork

theorem State.compress_atRest (s : State) : s.compress.AtRest := ⟨rfl, rfl, rfl⟩

theorem atRest_kept : KeptByCommandParts State.AtRest where
  respond _ _ _ hs := hs
  resetState _ hs := hs
  absorb s b hs := by
    rw [absorb_eq]
    split
    · exact (s.pushByte b).compress_atRest
    · exact hs

/-- Settles O58: every part of a command keeps the compressor at rest. -/
theorem transientsRestBetweenCommands : Obligations.TransientsRestBetweenCommands :=
  fun i s t hi hseq hx hv h => atRest_kept.exec i s t hi ⟨hseq, hx, hv⟩ h

@[simp] theorem zeroBuf_getElem (i : Nat) (hi : i < 64) : zeroBuf[i] = 0#8 := by simp [zeroBuf]

theorem State.reset_idle : State.reset.Idle := ⟨rfl, rfl, rfl⟩

/-- Settles O7: the reset values are those of the table (10_state.md R33). -/
theorem resetHasTheSpecifiedValues : Obligations.ResetHasTheSpecifiedValues :=
  ⟨rfl, rfl, rfl, rfl, fun i => zeroBuf_getElem i i.isLt, rfl, rfl, State.reset_idle⟩

/-- A cleared buffer has no byte at or beyond `bufLen` that is not zero. -/
theorem tailZero_of_zeroBuf (s : State) (h : s.buf = zeroBuf) : s.TailZero := fun i _ => by
  rw [h]; exact zeroBuf_getElem i i.isLt

/-- A full buffer has no byte at or beyond `bufLen`. -/
theorem tailZero_of_full (s : State) (h : s.bufLen = 64) : s.TailZero := fun i hi => by
  rw [h] at hi; exact absurd i.isLt (Nat.not_lt.2 hi)

/-- Storing a byte where there is room leaves zeros beyond it. -/
theorem State.TailZero.pushByte (s : State) (b : Byte) (hs : s.TailZero) (hroom : s.bufLen.toNat < 64) :
    (s.pushByte b).TailZero := by
  intro i hi
  have hlt : s.bufLen.toNat < i.val := by
    rw [State.pushByte_bufLen] at hi; bv_omega
  simpa [Vector.getElem_setIfInBounds_ne i.isLt (Nat.ne_of_lt hlt)] using hs i (Nat.le_of_lt hlt)

/-- What the invariant says between commands, the source channel apart: it holds inside a command too. -/
structure State.Settled (s : State) : Prop where
  counter : s.cnt.toNat % 64 = 0
  tail : s.TailZero
  accepting : s.Accepting
  rest : s.AtRest

theorem State.Inv.settled (s : State) (hs : s.Inv) (hidle : s.seq = .idle) : s.Settled :=
  ⟨hs.counter, hs.tail, (hs.between hidle).1, hidle, (hs.between hidle).2⟩

theorem State.Settled.inv (s : State) (hs : s.Settled) (hsrc : s.src = []) : s.Inv where
  counter := hs.counter
  tail := hs.tail
  noSource := hsrc
  between _ := ⟨hs.accepting, hs.rest.2⟩
  during hseq := absurd hs.rest.1 hseq
  index t ht := by rw [hs.rest.1] at ht; cases ht

theorem State.reset_settled : State.reset.Settled :=
  ⟨rfl, tailZero_of_zeroBuf _ rfl, Nat.zero_le _, rfl, rfl, rfl⟩

/-- Settles O8: at reset the buffer is cleared, the counter zero and the compressor at rest. -/
theorem resetMeetsTheInvariant : Obligations.ResetMeetsTheInvariant :=
  State.reset_settled.inv _ rfl

/-- A block adds 64 to the counter, and 64 divides 2^64 (10_state.md R25). -/
theorem counter_add_block (n : Count) (h : n.toNat % 64 = 0) : (add64 n 64).toNat % 64 = 0 := by
  rw [add64]; bv_omega

theorem State.compress_settled (s : State) (hcnt : s.cnt.toNat % 64 = 0) : s.compress.Settled where
  counter := by rw [State.compress_cnt]; exact counter_add_block _ hcnt
  tail := tailZero_of_zeroBuf _ rfl
  accepting := Nat.zero_le _
  rest := s.compress_atRest

theorem State.pushByte_settled (s : State) (b : Byte) (hs : s.Settled) (hroom : s.bufLen ≠ 63) :
    (s.pushByte b).Settled where
  counter := hs.counter
  tail := hs.tail.pushByte s b (Nat.lt_succ_of_le hs.accepting)
  accepting := by
    have hle : s.bufLen.toNat ≤ 63 := hs.accepting
    unfold State.Accepting
    rw [State.pushByte_bufLen]; bv_omega
  rest := hs.rest

theorem settled_kept : KeptByCommandParts State.Settled where
  respond _ _ _ hs := ⟨hs.counter, hs.tail, hs.accepting, hs.rest⟩
  resetState _ hs := ⟨rfl, tailZero_of_zeroBuf _ rfl, Nat.zero_le _, hs.rest⟩
  absorb s b hs := by
    by_cases hfull : s.bufLen = 63
    · rw [absorb_of_full s b hfull]
      exact (s.pushByte b).compress_settled hs.counter
    · rw [absorb_of_room s b hfull]
      exact s.pushByte_settled b hs hfull

/-- The operation at an index writes one working variable and moves the sequencer on (42_compression.md R150). -/
theorem exec_stepInstrs (n : Nat) (hn : n < stepInstrs.length) (s : State) :
    ∃ a w, exec stepInstrs[n] s = .next ((s.setWork a w).advance n) := by
  rw [stepInstrs_length] at hn
  interval_cases n <;> exact ⟨_, _, rfl⟩

/-- An index that decodes is one of the 48, and its operation writes one working variable and moves on. -/
theorem exec_decodedStep (k : StepIndex) (i : Instr) (s : State) (hd : decode (.step k) = .ok i) :
    k.toNat < 48 ∧ ∃ a w, exec i s = .next ((s.setWork a w).advance k.toNat) := by
  by_cases hk : k.toNat < 48
  · cases (decodeStep_of_lt k hk).symm.trans hd
    exact ⟨hk, exec_stepInstrs k.toNat hk s⟩
  · cases (decodeStep_of_ge k (Nat.le_of_not_lt hk)).symm.trans hd

theorem seqAfter_ne_idle (n : Nat) : seqAfter n ≠ .idle := by
  unfold seqAfter; split <;> simp

/-- The sequencer never moves past the last operation (30_encoding.md R90). -/
theorem seqAfter_index_lt (n : Nat) (hn : n < 48) (t : StepIndex) (h : seqAfter n = .step t) : t.toNat < 48 := by
  unfold seqAfter at h
  split at h
  · cases h
  · cases h
    rw [BitVec.toNat_ofNat]; omega

/-- Inside a compression the counter, the full buffer and the source channel are all the invariant asks of the state. -/
theorem inv_of_compressing (s : State) (hcnt : s.cnt.toNat % 64 = 0) (hsrc : s.src = []) (hfull : s.bufLen = 64)
    (hseq : s.seq ≠ .idle) (hindex : ∀ t, s.seq = .step t → t.toNat < 48) : s.Inv where
  counter := hcnt
  tail := tailZero_of_full s hfull
  noSource := hsrc
  between h := absurd h hseq
  during _ := hfull
  index := hindex

theorem State.Inv.loadBlock (s : State) (hs : s.Inv) (hseq : s.seq = .load) : s.loadBlock.Inv :=
  inv_of_compressing _ hs.counter hs.noSource (hs.during (by simp [hseq])) nofun
    (fun t ht => by cases ht; decide)

theorem State.Inv.operation (s : State) (hs : s.Inv) (k : StepIndex) (hseq : s.seq = .step k) (hk : k.toNat < 48)
    (a : Fin 4) (w : Word) : ((s.setWork a w).advance k.toNat).Inv :=
  inv_of_compressing _ hs.counter hs.noSource (hs.during (by simp [hseq])) (seqAfter_ne_idle _)
    (seqAfter_index_lt _ hk)

theorem State.Inv.foldBlock (s : State) (hs : s.Inv) : s.foldBlock.Inv :=
  State.Settled.inv _ ⟨counter_add_block _ hs.counter, tailZero_of_zeroBuf _ rfl, Nat.zero_le _, rfl, rfl, rfl⟩
    hs.noSource

/-- A command between commands: what it answers, with the source detached, meets the invariant again. -/
theorem State.Inv.command (s u : State) (hs : s.Inv) (hidle : s.seq = .idle) (i : Instr) (hi : isCommand i = true)
    (src : List Byte) (rest : List Input) (h : exec i (s.attach src rest) = .next u) : u.detach.Inv := by
  have hset := hs.settled s hidle
  have hu : u.Settled := settled_kept.exec i (s.attach src rest) u hi
    ⟨hset.counter, hset.tail, hset.accepting, hset.rest⟩ h
  exact State.Settled.inv _ ⟨hu.counter, hu.tail, hu.accepting, hu.rest⟩ rfl

/-- `rst` between commands (70_reset_and_hazards.md R230). -/
theorem State.Inv.hardwareReset (s : State) (hs : s.Inv) (hidle : s.seq = .idle) (rest : List Input) :
    (s.withInputs rest).resetState.Inv :=
  State.Settled.inv _ ⟨rfl, tailZero_of_zeroBuf _ rfl, Nat.zero_le _, (hs.settled s hidle).rest⟩ hs.noSource

theorem stepWith_inv (srcMax : Nat) (s t : State) (hs : s.Inv) (h : stepWith srcMax s = .next t) : t.Inv := by
  rcases stepWith_cases srcMax s t h with ⟨hseq, rfl⟩ | ⟨-, rfl⟩ | ⟨k, i, hseq, hd, hx⟩ | ⟨-, -, rfl⟩ |
    ⟨rest, hseq, -, rfl⟩ | ⟨w, src, rest, u, hseq, -, -, hx, rfl⟩
  · exact hs.loadBlock s hseq
  · exact hs.foldBlock
  · obtain ⟨hk, a, v, he⟩ := exec_decodedStep k i s hd
    cases he.symm.trans hx
    exact hs.operation s k hseq hk a v
  · exact hs
  · exact hs.hardwareReset s hseq rest
  · exact hs.command s u hseq _ (isCommand_decodeCommand w) src rest hx

/-- Settles O9: each thing a step can do keeps the invariant, whatever the limit on sources. -/
theorem everyStepKeepsTheInvariant : Obligations.EveryStepKeepsTheInvariant :=
  ⟨fun s t hs h => stepWith_inv Config.srcMaxDefault s t hs h, stepWith_inv⟩

end Sys2Proof.Machine
end

section
/-! What a command can see of a state (10_state.md R20, R23): two states alike in it answer alike. -/

namespace Sys2Proof.Machine

/-- Two states agree in all that a command reads or answers; the buffer counts only below `bufLen`. -/
structure SameView (s u : State) : Prop where
  acc : u.acc = s.acc
  bufLen : u.bufLen = s.bufLen
  cnt : u.cnt = s.cnt
  pending : u.pending = s.pending
  src : u.src = s.src
  responses : u.responses = s.responses

/-- Where the first of two answers is a next state, the second is one with the same view. -/
def AnswersAlike (a b : Answer) : Prop := ∀ t, a = .next t → ∃ t', b = .next t' ∧ SameView t t'

theorem answersAlike_next (t t' : State) (h : SameView t t') : AnswersAlike (.next t) (.next t') := by
  rintro _ ⟨⟩
  exact ⟨t', rfl, h⟩

theorem pending_of_empty (s : State) (h : s.bufLen = 0) : s.pending = [] := by simp [State.pending, h]

theorem pending_of_full (s : State) (h : s.bufLen = 64) : s.pending = s.buf.toList := by
  rw [State.pending, h]
  exact List.take_of_length_le (by simp)

/-- Storing a byte appends it to the bytes below `bufLen` (41_update_buffering.md R120). -/
theorem pending_pushByte (s : State) (b : Byte) (h : s.bufLen < 64) : (s.pushByte b).pending = s.pending ++ [b] := by
  have hlt : s.bufLen.toNat < 64 := h
  have hnext : (s.bufLen + 1).toNat = s.bufLen.toNat + 1 := by bv_omega
  rw [State.pending, State.pushByte_buf, State.pushByte_bufLen, hnext, Vector.toList_setIfInBounds,
    List.set_eq_take_append_cons_drop, if_pos (by simpa using hlt), ← List.singleton_append, ← List.append_assoc]
  exact List.take_left' (by simp; omega)

/-! `Compress` reads the accumulator and the buffer only (42_compression.md R141, R142, R155). -/

theorem stepOp_v_congr (t : Nat) (s u : State) (hx : u.x = s.x) (hv : u.v = s.v) : (stepOp t u).v = (stepOp t s).v := by
  unfold stepOp
  cases roundOf t <;> simp only [roundOp, op1, op2, op3, State.setWork_v, hx, hv]

theorem stepOp_x (t : Nat) (s : State) : (stepOp t s).x = s.x := by
  obtain ⟨a, w, h⟩ := stepOp_eq t s
  rw [h, State.setWork_x]

theorem foldl_stepOp_v_congr (l : List Nat) (s u : State) (hx : u.x = s.x) (hv : u.v = s.v) :
    (l.foldl (fun r t => stepOp t r) u).v = (l.foldl (fun r t => stepOp t r) s).v := by
  induction l generalizing s u with
  | nil => exact hv
  | cons t l ih => exact ih _ _ (by rw [stepOp_x, stepOp_x, hx]) (stepOp_v_congr t s u hx hv)

theorem foldl_stepOp_acc (l : List Nat) (s : State) : (l.foldl (fun r t => stepOp t r) s).acc = s.acc := by
  obtain ⟨w, h⟩ := foldl_stepOp_eq l s
  rw [h]

theorem blockWords_congr (s u : State) (h : u.buf = s.buf) : u.blockWords = s.blockWords := by
  simp only [State.blockWords, State.bufRead32, h]

theorem feedForward_congr (s u : State) (hacc : u.acc = s.acc) (hv : u.v = s.v) : u.feedForward = s.feedForward := by
  simp only [State.feedForward, hacc, hv]

theorem compress_acc_congr (s u : State) (hacc : u.acc = s.acc) (hbuf : u.buf = s.buf) :
    u.compress.acc = s.compress.acc := by
  unfold State.compress
  rw [State.foldBlock_acc, State.foldBlock_acc]
  exact feedForward_congr _ _
    (by rw [foldl_stepOp_acc, foldl_stepOp_acc, State.loadBlock_acc, State.loadBlock_acc, hacc])
    (foldl_stepOp_v_congr _ _ _ (blockWords_congr s u hbuf) hacc)

/-! The parts of a command keep two views the same. -/

namespace SameView

theorem respond {s u : State} (h : SameView s u) (st : Status) (d : Data) : SameView (s.respond st d) (u.respond st d) where
  acc := h.acc
  bufLen := h.bufLen
  cnt := h.cnt
  pending := h.pending
  src := h.src
  responses := by rw [State.respond_responses, State.respond_responses, h.responses]

theorem resetState {s u : State} (h : SameView s u) : SameView s.resetState u.resetState where
  acc := rfl
  bufLen := rfl
  cnt := rfl
  pending := rfl
  src := h.src
  responses := h.responses

theorem pushByte {s u : State} (h : SameView s u) (b : Byte) (hroom : s.bufLen < 64) :
    SameView (s.pushByte b) (u.pushByte b) where
  acc := h.acc
  bufLen := congrArg (· + 1) h.bufLen
  cnt := h.cnt
  pending := by rw [pending_pushByte s b hroom, pending_pushByte u b (h.bufLen ▸ hroom), h.pending]
  src := h.src
  responses := h.responses

/-- The whole of a full buffer is below `bufLen`. -/
theorem buf_of_full {s u : State} (h : SameView s u) (hfull : s.bufLen = 64) : u.buf = s.buf := by
  rw [← Vector.toList_inj, ← pending_of_full s hfull, ← pending_of_full u (h.bufLen.trans hfull), h.pending]

theorem compress {s u : State} (h : SameView s u) (hfull : s.bufLen = 64) : SameView s.compress u.compress where
  acc := compress_acc_congr s u h.acc (h.buf_of_full hfull)
  bufLen := by rw [State.compress_bufLen, State.compress_bufLen]
  cnt := by rw [State.compress_cnt, State.compress_cnt, h.cnt]
  pending := by rw [pending_of_empty _ u.compress_bufLen, pending_of_empty _ s.compress_bufLen]
  src := by rw [State.compress_src, State.compress_src, h.src]
  responses := by rw [State.compress_responses, State.compress_responses, h.responses]

theorem absorb {s u : State} (h : SameView s u) (b : Byte) (hroom : s.bufLen < 64) :
    SameView (absorb s b) (absorb u b) := by
  have hpush := h.pushByte b hroom
  unfold Machine.absorb
  rw [hpush.bufLen]
  split
  · exact hpush.compress ‹_›
  · exact hpush

theorem foldl_absorb {s u : State} (h : SameView s u) (bs : List Byte) (hroom : s.bufLen < 64) :
    SameView (bs.foldl Machine.absorb s) (bs.foldl Machine.absorb u) := by
  induction bs generalizing s u with
  | nil => exact h
  | cons b bs ih => exact ih (h.absorb b hroom) (absorb_lt s b hroom)

/-- The padding is built from `cnt` and `bufLen` (43_finalize_padding.md R180 to R183). -/
theorem padding {s u : State} (h : SameView s u) : u.padding = s.padding := by
  simp only [State.padding, State.padLen, State.bitLen, h.cnt, h.bufLen]

theorem finalize {s u : State} (h : SameView s u) : AnswersAlike (finalize s) (finalize u) := by
  intro t ht
  have hroom := (finalize_next s t ht).1
  have hpad := h.foldl_absorb s.padding hroom
  rw [finalize_of_lt s hroom] at ht
  rw [finalize_of_lt u (h.bufLen ▸ hroom), h.padding, hpad.acc]
  exact answersAlike_next _ _ (hpad.resetState.respond _ _) t ht

/-- Absorbing goes on or stops alike, and where it goes on what follows it begins from the same view. -/
theorem absorbAll {s u : State} (h : SameView s u) (bs : List Byte) :
    (absorbAll bs s = none ∧ absorbAll bs u = none) ∨
    ∃ s' u', absorbAll bs s = some s' ∧ absorbAll bs u = some u' ∧ SameView s' u' := by
  by_cases hroom : s.bufLen < 64
  · exact .inr ⟨_, _, absorbAll_of_lt bs s hroom, absorbAll_of_lt bs u (h.bufLen ▸ hroom), h.foldl_absorb bs hroom⟩
  · by_cases hbs : bs = []
    · subst hbs
      exact .inr ⟨s, u, absorbAll_nil s, absorbAll_nil u, h⟩
    · exact .inl ⟨(absorbAll_none bs s).2 ⟨hbs, hroom⟩, (absorbAll_none bs u).2 ⟨hbs, h.bufLen ▸ hroom⟩⟩

theorem absorbAndRespond {s u : State} (h : SameView s u) (bs : List Byte) :
    AnswersAlike (absorbAndRespond bs s) (absorbAndRespond bs u) := by
  unfold Machine.absorbAndRespond
  obtain ⟨hs, hu⟩ | ⟨s', u', hs, hu, h'⟩ := h.absorbAll bs <;> rw [hs, hu]
  · exact nofun
  · exact answersAlike_next _ _ (h'.respond _ _)

theorem absorbAndFinalize {s u : State} (h : SameView s u) (bs : List Byte) :
    AnswersAlike (absorbAndFinalize bs s) (absorbAndFinalize bs u) := by
  unfold Machine.absorbAndFinalize
  obtain ⟨hs, hu⟩ | ⟨s', u', hs, hu, h'⟩ := h.absorbAll bs <;> rw [hs, hu]
  · exact nofun
  · exact h'.finalize

/-- Every command answers states of the same view alike. -/
theorem exec {s u : State} (h : SameView s u) (i : Instr) (hi : isCommand i = true) :
    AnswersAlike (exec i s) (exec i u) := by
  rcases exec_command_cases i hi s.src with ⟨st, d, hx⟩ | hx | ⟨bs, hx⟩ | ⟨bs, hx⟩ <;> rw [hx s rfl, hx u h.src]
  · exact answersAlike_next _ _ (h.respond st d)
  · exact answersAlike_next _ _ (h.resetState.respond _ _)
  · exact h.absorbAndRespond bs
  · exact h.absorbAndFinalize bs

end SameView

/-- Settles O31: a command answers states of the same view alike. -/
theorem unobservableStateHasNoInfluence : Obligations.UnobservableStateHasNoInfluence := by
  intro i s u t hi hacc hlen hcnt hpending hsrc hresp hx
  have hview : SameView s u := ⟨hacc, hlen, hcnt, hpending, hsrc, hresp⟩
  obtain ⟨t', hx', h⟩ := hview.exec i hi t hx
  exact ⟨t', hx', h.acc, h.bufLen, h.cnt, h.pending, h.src, h.responses⟩

end Sys2Proof.Machine
end

section
/-! Engines share nothing but the read-only ROM (10_state.md R36). -/

namespace Sys2Proof.Machine

/-- The platform after engine `i` has moved to `s`. -/
def Platform.setEngine {n : Nat} (i : Fin n) (s : State) (p : Platform n) : Platform n :=
  { p with engines := p.engines.set i s }

theorem Platform.setEngine_engine_ne {n : Nat} (i j : Fin n) (hij : i ≠ j) (s : State) (p : Platform n) :
    (p.setEngine i s).engines[j] = p.engines[j] :=
  Vector.getElem_set_ne i.isLt j.isLt (Fin.val_ne_of_ne hij)

theorem Platform.setEngine_comm {n : Nat} (i j : Fin n) (hij : i ≠ j) (s t : State) (p : Platform n) :
    (p.setEngine i s).setEngine j t = (p.setEngine j t).setEngine i s :=
  congrArg (Platform.mk · p.atLeastOne) (Vector.set_comm s t (Fin.val_ne_of_ne hij))

theorem Platform.stepAt_of_next {n : Nat} (srcMax : Nat) (i : Fin n) (p : Platform n) (s : State)
    (h : stepWith srcMax p.engines[i] = .next s) : p.stepAt srcMax i = .next (p.setEngine i s) := by
  simp only [Platform.stepAt, h, Platform.setEngine]

theorem Platform.stepAt_next {n : Nat} (srcMax : Nat) (i : Fin n) (p q : Platform n)
    (h : p.stepAt srcMax i = .next q) : ∃ s, stepWith srcMax p.engines[i] = .next s ∧ q = p.setEngine i s := by
  unfold Platform.stepAt at h
  split at h
  · rename_i s hs
    cases h
    exact ⟨s, hs, rfl⟩
  · cases h
  · cases h

/-- Settles O59: a step writes one engine's state and reads no other. -/
theorem instancesDoNotInterfere : Obligations.InstancesDoNotInterfere := by
  intro srcMax n i j p p1 p2 hij h1 h2
  obtain ⟨s, hs, rfl⟩ := Platform.stepAt_next srcMax i p p1 h1
  obtain ⟨t, ht, rfl⟩ := Platform.stepAt_next srcMax j p p2 h2
  have hj := Platform.setEngine_engine_ne i j hij s p
  have hi := Platform.setEngine_engine_ne j i hij.symm t p
  refine ⟨hj, (p.setEngine i s).setEngine j t, ?_, ?_⟩
  · exact Platform.stepAt_of_next srcMax j _ t (by rw [hj, ht])
  · rw [Platform.setEngine_comm i j hij]
    exact Platform.stepAt_of_next srcMax i _ s (by rw [hi, hs])

end Sys2Proof.Machine
end

section
/-! The presented command (20_memory.md R59, R65), and the responses a step adds (R64, 30_encoding.md R87). -/

namespace Sys2Proof.Machine

/-- Between commands the step is the decoded command on the state that has taken the entry, then retired. -/
theorem stepWith_command (srcMax : Nat) (s : State) (w : CmdWord) (src : List Byte) (rest : List Input)
    (hs : s.seq = .idle) (hi : s.inputs = .command w src :: rest)
    (hlen : takesSource (decodeCommand w) = true → src.length ≤ srcMax) :
    stepWith srcMax s = retire (exec (decodeCommand w) (s.attach src rest)) := by
  rw [stepWith_idle srcMax s hs, takeInput_command srcMax s w src rest hi,
    if_pos ((sourceFits_iff srcMax _ src).2 hlen)]
  rfl

/-- Settles O11: a step between commands is `exec` between `attach` and `detach`, at the default limit as at any. -/
theorem stepRunsThePresentedCommand : Obligations.StepRunsThePresentedCommand := by
  intro s w src rest i hs hi hd _
  cases hd
  exact ⟨stepWith_command Config.srcMaxDefault s w src rest hs hi,
    fun srcMax => stepWith_command srcMax s w src rest hs hi⟩

/-- Absorbing delivers nothing (41_update_buffering.md R120). -/
theorem foldl_absorb_responses (bs : List Byte) (s : State) : (bs.foldl absorb s).responses = s.responses := by
  obtain ⟨-, -, -, hresp⟩ := foldl_absorb_frame bs s
  exact hresp

theorem finalize_responses (s t : State) (h : finalize s = .next t) : ∃ r, t.responses = s.responses ++ [r] := by
  obtain ⟨-, rfl⟩ := finalize_next s t h
  exact ⟨_, by rw [State.respond_responses, State.resetState_responses, foldl_absorb_responses]⟩

/-- A command that answers delivers one response, whether it absorbs bytes before it or not (30_encoding.md R87). -/
theorem exec_command_responses (i : Instr) (s t : State) (hi : isCommand i = true) (h : exec i s = .next t) :
    ∃ r, t.responses = s.responses ++ [r] := by
  rcases exec_command_cases i hi s.src with ⟨st, d, hx⟩ | hx | ⟨bs, hx⟩ | ⟨bs, hx⟩ <;> rw [hx s rfl] at h
  · cases h
    exact ⟨⟨st, d⟩, rfl⟩
  · cases h
    exact ⟨⟨.ok, 0⟩, rfl⟩
  · rw [absorbAndRespond_next bs s t h, State.respond_responses, foldl_absorb_responses]
    exact ⟨_, rfl⟩
  · obtain ⟨r, hr⟩ := finalize_responses _ t (absorbAndFinalize_next bs s t h)
    exact ⟨r, by rw [hr, foldl_absorb_responses]⟩

/-- Only a presented command adds a response; every other step leaves the list as it is. -/
theorem stepWith_responses (srcMax : Nat) (s t : State) (h : stepWith srcMax s = .next t) :
    t.responses = s.responses ∨ ∃ r, t.responses = s.responses ++ [r] := by
  rcases stepWith_cases srcMax s t h with ⟨-, rfl⟩ | ⟨-, rfl⟩ | ⟨k, i, -, hd, hx⟩ | ⟨-, -, rfl⟩ |
    ⟨rest, -, -, rfl⟩ | ⟨w, src, rest, u, -, -, -, hx, rfl⟩
  · exact .inl rfl
  · exact .inl rfl
  · obtain ⟨-, a, v, he⟩ := exec_decodedStep k i s hd
    cases he.symm.trans hx
    exact .inl rfl
  · exact .inl rfl
  · exact .inl rfl
  · exact .inr (exec_command_responses _ (s.attach src rest) u (isCommand_decodeCommand w) hx)

/-- Settles O16: the responses of before stand first after any step, at the default limit as at any. -/
theorem deliveredResponsesStay : Obligations.DeliveredResponsesStay := by
  rintro s t (h | ⟨srcMax, h⟩)
  · exact stepWith_responses Config.srcMaxDefault s t h
  · exact stepWith_responses srcMax s t h

end Sys2Proof.Machine
end

section
/-! What the source channel decides (20_memory.md R56): the size and the bytes of the range. Once those are read, the
rest of a command commutes with replacing the source. -/

namespace Sys2Proof.Machine

/-- The state with other bytes on the source channel. -/
def State.withSource (src : List Byte) (s : State) : State := { s with src := src }

/-- An answer with other bytes on the source channel of its next state; a stop stays a stop. -/
def answerWithSource (src : List Byte) : Answer → Answer
  | .next s => .next (s.withSource src)
  | .fault f => .fault f
  | .refused r => .refused r

variable (src : List Byte)

theorem stepOp_withSource (t : Nat) (s : State) : stepOp t (s.withSource src) = (stepOp t s).withSource src := by
  unfold stepOp
  cases roundOf t <;> rfl

theorem loadBlock_withSource (s : State) : (s.withSource src).loadBlock = s.loadBlock.withSource src := rfl

theorem foldBlock_withSource (s : State) : (s.withSource src).foldBlock = s.foldBlock.withSource src := rfl

theorem compress_withSource (s : State) : (s.withSource src).compress = s.compress.withSource src := by
  unfold State.compress
  rw [loadBlock_withSource, List.foldl_hom (State.withSource src) fun u t => stepOp_withSource src t u,
    foldBlock_withSource]

theorem absorb_withSource (s : State) (b : Byte) : absorb (s.withSource src) b = (absorb s b).withSource src := by
  by_cases hfull : s.bufLen = 63
  · rw [absorb_of_full s b hfull, absorb_of_full (s.withSource src) b hfull]
    exact compress_withSource src (s.pushByte b)
  · rw [absorb_of_room s b hfull, absorb_of_room (s.withSource src) b hfull]
    rfl

theorem absorbAll_withSource (bs : List Byte) (s : State) :
    absorbAll bs (s.withSource src) = (absorbAll bs s).map (State.withSource src) := by
  have hfold := List.foldl_hom (State.withSource src) (l := bs) (init := s) (absorb_withSource src)
  unfold absorbAll
  rw [hfold, apply_ite (Option.map _)]
  rfl

theorem absorbAndRespond_withSource (bs : List Byte) (s : State) :
    absorbAndRespond bs (s.withSource src) = answerWithSource src (absorbAndRespond bs s) := by
  unfold absorbAndRespond
  rw [absorbAll_withSource]
  cases absorbAll bs s <;> rfl

theorem finalize_withSource (s : State) : finalize (s.withSource src) = answerWithSource src (finalize s) := by
  have hpad : (s.withSource src).padding = s.padding := rfl
  unfold finalize
  rw [hpad, absorbAll_withSource]
  cases absorbAll s.padding s <;> rfl

theorem absorbAndFinalize_withSource (bs : List Byte) (s : State) :
    absorbAndFinalize bs (s.withSource src) = answerWithSource src (absorbAndFinalize bs s) := by
  unfold absorbAndFinalize
  rw [absorbAll_withSource]
  cases absorbAll bs s with
  | none => rfl
  | some u => exact finalize_withSource src u

/-- The range commands share one form: validate, then run on the bytes of the range, or raise (R123, R190). -/
def rangeCommand (run : List Byte → State → Answer) (sp : Bool) (offset len : Int) (s : State) : Answer :=
  if validate sp s.srcSize offset len = .ok then run (s.sourceRange offset len) s
  else raise (validate sp s.srcSize offset len) s

theorem exec_updateRange (sp : Bool) (offset len : Int) (s : State) :
    exec (.updateRange sp offset len) s = rangeCommand absorbAndRespond sp offset len s :=
  execUpdateRange_eq sp offset len s

theorem exec_digestRange (sp : Bool) (offset len : Int) (s : State) :
    exec (.digestRange sp offset len) s = rangeCommand absorbAndFinalize sp offset len s :=
  execDigestRange_eq sp offset len s

/-- Two sources that agree at the indices of a range give the same bytes of it. -/
theorem sourceRange_withSource (s : State) (offset len : Int)
    (hbytes : ∀ k, k < len.toNat → src[offset.toNat + k]? = s.src[offset.toNat + k]?) :
    (s.withSource src).sourceRange offset len = s.sourceRange offset len := by
  refine List.ext_getElem? fun k => ?_
  by_cases hk : k < len.toNat
  · simpa [State.sourceRange, State.withSource, List.getElem?_take_of_lt hk] using hbytes k hk
  · simp [State.sourceRange, List.getElem?_take_eq_none (Nat.le_of_not_lt hk)]

/-- A range command reads the size of the source to validate, and only after that the bytes of the range. -/
theorem rangeCommand_withSource (run : List Byte → State → Answer)
    (hrun : ∀ bs s, run bs (s.withSource src) = answerWithSource src (run bs s))
    (s : State) (sp : Bool) (offset len : Int) (hsize : src.length = s.src.length)
    (hbytes : 0 ≤ offset → 0 ≤ len → ∀ k, k < len.toNat → src[offset.toNat + k]? = s.src[offset.toNat + k]?) :
    rangeCommand run sp offset len (s.withSource src) = answerWithSource src (rangeCommand run sp offset len s) := by
  have hsize' : (s.withSource src).srcSize = s.srcSize := hsize
  unfold rangeCommand
  rw [hsize']
  by_cases hv : validate sp s.srcSize offset len = .ok
  · obtain ⟨-, hoff, hlen, -⟩ := (validate_ok _ _ _ _).1 hv
    rw [if_pos hv, if_pos hv, sourceRange_withSource src s offset len (hbytes hoff hlen), hrun]
  · rw [if_neg hv, if_neg hv]
    rfl

/-- Settles O30: both range commands commute with replacing the source outside the range. -/
theorem sourceBytesOutsideTheRangeAreNotRead : Obligations.SourceBytesOutsideTheRangeAreNotRead := by
  intro s other sp offset len hsize hbytes
  have hrange := fun run hrun => rangeCommand_withSource other run hrun s sp offset len hsize hbytes
  refine ⟨fun t ht => ?_, fun t ht => ?_⟩
  · have h := hrange absorbAndRespond (absorbAndRespond_withSource other)
    rwa [← exec_updateRange, ← exec_updateRange, ht] at h
  · have h := hrange absorbAndFinalize (absorbAndFinalize_withSource other)
    rwa [← exec_digestRange, ← exec_digestRange, ht] at h

end Sys2Proof.Machine
end

section
/-! What the decoders answer, said once per opcode, and the fields of a command word as numbers (30_encoding.md R80 to
R86, R90). -/

namespace Sys2Proof.Machine

/-! The opcode map (R82), one equation per opcode. -/

theorem decodeCommand_eq_length (w : CmdWord) (h : opField w = 0) : decodeCommand w = .length := by
  rw [decodeCommand, h]; rfl

theorem decodeCommand_eq_reset (w : CmdWord) (h : opField w = 1) : decodeCommand w = .reset := by
  rw [decodeCommand, h]; rfl

theorem decodeCommand_eq_updateByte (w : CmdWord) (h : opField w = 2) :
    decodeCommand w = .updateByte (dataField w) := by
  rw [decodeCommand, h]; rfl

theorem decodeCommand_eq_updateAll (w : CmdWord) (h : opField w = 3) : decodeCommand w = .updateAll (spField w) := by
  rw [decodeCommand, h]; rfl

theorem decodeCommand_eq_updateRange (w : CmdWord) (h : opField w = 4) :
    decodeCommand w = .updateRange (spField w) (offsetField w) (lengthField w) := by rw [decodeCommand, h]; rfl

theorem decodeCommand_eq_digestAll (w : CmdWord) (h : opField w = 5) : decodeCommand w = .digestAll (spField w) := by
  rw [decodeCommand, h]; rfl

theorem decodeCommand_eq_digestRange (w : CmdWord) (h : opField w = 6) :
    decodeCommand w = .digestRange (spField w) (offsetField w) (lengthField w) := by rw [decodeCommand, h]; rfl

theorem decodeCommand_eq_digest (w : CmdWord) (h : opField w = 7) : decodeCommand w = .digest := by
  rw [decodeCommand, h]; rfl

/-! Decoding the canonical encoding (R81, R83, R84). -/

/-- The byte of `UPDATE_BYTE` is the low byte of the offset field (R80). -/
theorem dataField_packWord (op : BitVec 3) (sp : Bool) (o l : BitVec 32) :
    dataField (packWord op sp o l) = o.setWidth 8 := by
  have h : dataField (packWord op sp o l) = ((packWord op sp o l).extractLsb' 4 32).setWidth 8 := by
    ext i hi
    simp [dataField]
    omega
  rw [h, extract_offset_packWord]

/-- A signed operand in the range of its field survives the field (R83). -/
theorem toInt_ofInt_of_fitsArg (n : Int) (h : fitsArg n = true) : (BitVec.ofInt 32 n).toInt = n := by
  simp only [fitsArg, Bool.and_eq_true, decide_eq_true_eq] at h
  exact BitVec.toInt_ofInt_eq_self (by decide) (by omega) (by omega)

/-- What a field holds is in the range of a signed operand (R83). -/
theorem fitsArg_toInt (x : BitVec 32) : fitsArg x.toInt = true := by
  have hlo := x.le_toInt
  have hhi := x.toInt_lt
  simp only [fitsArg, Bool.and_eq_true, decide_eq_true_eq]
  omega

/-- Settles O1: the opcode and the operand fields read what the encoder packed; each step index is its own row. -/
theorem decodeOfEncodeIsTheInstruction : Obligations.DecodeOfEncodeIsTheInstruction := by
  intro i hwf
  cases i with
  | updateByte data =>
    rw [encode, decode, decodeCommand_eq_updateByte _ (opField_packWord _ _ _ _), dataField_packWord,
      BitVec.setWidth_setWidth_of_le data (by decide), BitVec.setWidth_eq]
  | updateAll sp => rw [encode, decode, decodeCommand_eq_updateAll _ (opField_packWord _ _ _ _), spField_packWord]
  | digestAll sp => rw [encode, decode, decodeCommand_eq_digestAll _ (opField_packWord _ _ _ _), spField_packWord]
  | updateRange sp offset len =>
    obtain ⟨ho, hl⟩ := (Bool.and_eq_true _ _).mp hwf
    rw [encode, decode, decodeCommand_eq_updateRange _ (opField_packWord _ _ _ _), spField_packWord,
      offsetField_packWord, lengthField_packWord, toInt_ofInt_of_fitsArg offset ho, toInt_ofInt_of_fitsArg len hl]
  | digestRange sp offset len =>
    obtain ⟨ho, hl⟩ := (Bool.and_eq_true _ _).mp hwf
    rw [encode, decode, decodeCommand_eq_digestRange _ (opField_packWord _ _ _ _), spField_packWord,
      offsetField_packWord, lengthField_packWord, toInt_ofInt_of_fitsArg offset ho, toInt_ofInt_of_fitsArg len hl]
  | _ => rfl

/-! The fields as numbers (R80, R83). -/

theorem opField_eq_iff (w : CmdWord) (op : BitVec 3) : opField w = op ↔ w.toNat % 8 = op.toNat := by
  rw [← BitVec.toNat_inj, opField, BitVec.extractLsb'_toNat, Nat.shiftRight_zero]

theorem spField_eq (w : CmdWord) : spField w = decide (w.toNat / 2 ^ 3 % 2 = 1) := by
  rw [spField, BitVec.getLsbD, Nat.testBit_eq_decide_div_mod_eq]

theorem dataField_eq (w : CmdWord) : dataField w = BitVec.ofNat 8 (w.toNat / 2 ^ 4) := by
  rw [dataField, BitVec.extractLsb', Nat.shiftRight_eq_div_pow]

/-- The two's complement reading of the 32 bits of a word from a given bit on. -/
theorem toInt_extractLsb' (w : CmdWord) (k : Nat) :
    (w.extractLsb' k 32).toInt =
      if w.toNat / 2 ^ k % 2 ^ 32 < 2 ^ 31 then (w.toNat / 2 ^ k % 2 ^ 32 : Int)
      else (w.toNat / 2 ^ k % 2 ^ 32 : Int) - 2 ^ 32 := by
  have hsign : 2 * (w.toNat / 2 ^ k % 2 ^ 32) < 2 ^ 32 ↔ w.toNat / 2 ^ k % 2 ^ 32 < 2 ^ 31 := by omega
  rw [BitVec.toInt_eq_toNat_cond, BitVec.extractLsb'_toNat, Nat.shiftRight_eq_div_pow, if_congr hsign rfl rfl]
  push_cast
  rfl

/-- Settles O2: the opcode map, read at each of the eight values, with the fields as numbers. -/
theorem everyCommandWordDecodesByItsOpcode : Obligations.EveryCommandWordDecodesByItsOpcode := by
  intro w
  have hop := opField_eq_iff w
  have hoff : offsetField w = _ := toInt_extractLsb' w 4
  have hlen : lengthField w = _ := toInt_extractLsb' w 36
  rw [← dataField_eq, ← spField_eq, ← hoff, ← hlen]
  refine congrArg Except.ok ?_
  split_ifs with h0 h1 h2 h3 h4 h5 h6
  · exact decodeCommand_eq_length w ((hop 0).2 h0)
  · exact decodeCommand_eq_reset w ((hop 1).2 h1)
  · exact decodeCommand_eq_updateByte w ((hop 2).2 h2)
  · exact decodeCommand_eq_updateAll w ((hop 3).2 h3)
  · exact decodeCommand_eq_updateRange w ((hop 4).2 h4)
  · exact decodeCommand_eq_digestAll w ((hop 5).2 h5)
  · exact decodeCommand_eq_digestRange w ((hop 6).2 h6)
  · have h7 : w.toNat % 8 = 7 := by omega
    exact decodeCommand_eq_digest w ((hop 7).2 h7)

/-- Settles O3: at each opcode with ignored bits the decoded command reads only the fields that agree. -/
theorem ignoredFieldsDoNotMatter : Obligations.IgnoredFieldsDoNotMatter := by
  intro w u hop
  have hu : ∀ op, opField w = op → opField u = op := fun op h => hop.symm.trans h
  refine ⟨?_, fun h2 hdata => ?_, ?_⟩
  · rintro (h | h | h)
    · rw [decode, decode, decodeCommand_eq_length w h, decodeCommand_eq_length u (hu _ h)]
    · rw [decode, decode, decodeCommand_eq_reset w h, decodeCommand_eq_reset u (hu _ h)]
    · rw [decode, decode, decodeCommand_eq_digest w h, decodeCommand_eq_digest u (hu _ h)]
  · have hdata' : dataField w = dataField u := hdata
    rw [decode, decode, decodeCommand_eq_updateByte w h2, decodeCommand_eq_updateByte u (hu _ h2), hdata']
  · rintro (h | h) hsp <;> have hsp' : spField w = spField u := hsp
    · rw [decode, decode, decodeCommand_eq_updateAll w h, decodeCommand_eq_updateAll u (hu _ h), hsp']
    · rw [decode, decode, decodeCommand_eq_digestAll w h, decodeCommand_eq_digestAll u (hu _ h), hsp']

/-! Step indices (R90). -/

/-- The encoding of the operation at a place of the table is that place. -/
theorem encode_stepInstrs (n : Nat) (hn : n < stepInstrs.length) : encode stepInstrs[n] = .step (BitVec.ofNat 6 n) := by
  rw [stepInstrs_length] at hn
  interval_cases n <;> rfl

/-- Settles O4: the table has 48 entries, each encoded as its place. -/
theorem stepIndexDecodesBelowFortyEight : Obligations.StepIndexDecodesBelowFortyEight := by
  refine fun t => ⟨fun ht => ?_, decodeStep_of_ge t⟩
  have hlt : t.toNat < stepInstrs.length := ht
  refine ⟨stepInstrs[t.toNat], decodeStep_of_lt t ht, ?_, List.getElem?_eq_getElem hlt⟩
  rw [encode_stepInstrs t.toNat hlt, BitVec.ofNat_toNat, BitVec.setWidth_eq]

theorem wf_of_mem_stepInstrs : ∀ i ∈ stepInstrs, i.wf = true := by decide

theorem wf_decodeCommand (w : CmdWord) : (decodeCommand w).wf = true := by
  have hrange : (fitsArg (offsetField w) && fitsArg (lengthField w)) = true := by
    rw [offsetField, lengthField, fitsArg_toInt, fitsArg_toInt]; rfl
  unfold decodeCommand
  split
  case h_5 => exact hrange
  case h_7 => exact hrange
  all_goals rfl

/-- Settles O5: a signed field holds values of its range only, and a step operation has no operand. -/
theorem decodedInstructionsAreWellFormed : Obligations.DecodedInstructionsAreWellFormed := by
  rintro (w | t) i h
  · cases h
    exact wf_decodeCommand w
  · by_cases ht : t.toNat < 48
    · cases (decodeStep_of_lt t ht).symm.trans h
      exact wf_of_mem_stepInstrs _ (List.getElem_mem _)
    · cases (decodeStep_of_ge t (Nat.le_of_not_lt ht)).symm.trans h

/-- Settles O6: nine closed words. -/
theorem wordsOfTheSpecDecode : Obligations.WordsOfTheSpecDecode := by
  unfold Obligations.WordsOfTheSpecDecode
  decide

/-- Settles O13: the step decodes the index, and the decoder rejects it by name. -/
theorem stepRefusesAnIndexThatNeverOccurs : Obligations.StepRefusesAnIndexThatNeverOccurs := by
  intro s t hs ht
  have hd : decode (.step t) = .error (.noSuchStep t) := decodeStep_of_ge t ht
  rw [step_eq, stepWith_index _ s t hs, runEncoded, hd]

end Sys2Proof.Machine
end

section
/-! One response per command, with the status of the failure table (30_encoding.md R87, 60_exceptions.md R216). -/

namespace Sys2Proof.Machine

/-- `t` is what a command answers on `s` with the response `r`; a failure leaves nothing else (60_exceptions.md R204). -/
structure Answered (s t : State) (r : Response) : Prop where
  responses : t.responses = s.responses ++ [r]
  src : t.src = s.src
  inputs : t.inputs = s.inputs
  failure : r.status ≠ .ok → t = s.plus r.status 0

/-- Code 3 is never produced (60_exceptions.md R200). -/
theorem Status.code_ne_three (st : Status) : st.code ≠ 3 := by cases st <;> decide

/-- The form in which the obligation states an answer, with a property of the response. -/
theorem Answered.exists_response {s t : State} {r : Response} (h : Answered s t r) {P : Response → Prop} (hr : P r) :
    ∃ r : Response, t.responses = s.responses ++ [r] ∧ t.src = s.src ∧ t.inputs = s.inputs ∧
      r.status.code ≠ 3 ∧ (r.status ≠ .ok → t = s.plus r.status 0) ∧ P r :=
  ⟨r, h.responses, h.src, h.inputs, r.status.code_ne_three, h.failure, hr⟩

theorem answered_raise (st : Status) (s : State) : Answered s (s.respond st 0) ⟨st, 0⟩ := ⟨rfl, rfl, rfl, fun _ => rfl⟩

theorem answered_ok (d : Data) (s u : State) (hresp : u.responses = s.responses) (hsrc : u.src = s.src)
    (hinputs : u.inputs = s.inputs) : Answered s (u.respond .ok d) ⟨.ok, d⟩ where
  responses := by rw [State.respond_responses, hresp]
  src := hsrc
  inputs := hinputs
  failure h := absurd rfl h

theorem absorbAndRespond_answered (bs : List Byte) (s t : State) (h : absorbAndRespond bs s = .next t) :
    Answered s t ⟨.ok, 0⟩ := by
  obtain ⟨-, hsrc, hinputs, hresp⟩ := foldl_absorb_frame bs s
  rw [absorbAndRespond_next bs s t h]
  exact answered_ok 0 s _ hresp hsrc hinputs

theorem finalize_answered (s t : State) (h : finalize s = .next t) : ∃ d, Answered s t ⟨.ok, d⟩ := by
  obtain ⟨-, rfl⟩ := finalize_next s t h
  obtain ⟨-, hsrc, hinputs, hresp⟩ := foldl_absorb_frame s.padding s
  exact ⟨_, answered_ok _ s _ hresp hsrc hinputs⟩

theorem absorbAndFinalize_answered (bs : List Byte) (s t : State) (h : absorbAndFinalize bs s = .next t) :
    ∃ d, Answered s t ⟨.ok, d⟩ := by
  obtain ⟨d, hd⟩ := finalize_answered _ t (absorbAndFinalize_next bs s t h)
  obtain ⟨-, hsrc, hinputs, hresp⟩ := foldl_absorb_frame bs s
  exact ⟨d, hresp ▸ hd.responses, hd.src.trans hsrc, hd.inputs.trans hinputs, fun hne => absurd rfl hne⟩

/-- `Validate` in one test per status (R202, R203). -/
theorem validate_eq (sp : Bool) (n : Nat) (offset len : Int) :
    validate sp n offset len =
      if sp = false then .invalidArgument
      else if offset < 0 ∨ len < 0 ∨ offset + len > (n : Int) then .outOfRange else .ok := by
  cases sp
  · rfl
  · by_cases h : RangeValid n offset len
    · rw [(validate_ok _ _ _ _).2 ⟨rfl, h⟩, if_neg (by decide), if_neg (by unfold RangeValid at h; omega)]
    · rw [validate_outOfRange n offset len h, if_neg (by decide), if_pos (by unfold RangeValid at h; omega)]

/-- A range command that answers has run on the bytes of the range, or has raised what `Validate` gave. -/
theorem rangeCommand_next (run : List Byte → State → Answer) (sp : Bool) (offset len : Int) (s t : State)
    (h : rangeCommand run sp offset len s = .next t) :
    (validate sp s.srcSize offset len = .ok ∧ run (s.sourceRange offset len) s = .next t) ∨
      Answered s t ⟨validate sp s.srcSize offset len, 0⟩ := by
  unfold rangeCommand at h
  split at h
  · exact .inl ⟨‹_›, h⟩
  · cases h
    exact .inr (answered_raise _ s)

theorem updateRange_answered (sp : Bool) (offset len : Int) (s t : State)
    (h : exec (.updateRange sp offset len) s = .next t) : Answered s t ⟨validate sp s.srcSize offset len, 0⟩ := by
  rw [exec_updateRange] at h
  rcases rangeCommand_next _ sp offset len s t h with ⟨hv, hrun⟩ | hraise
  · rw [hv]
    exact absorbAndRespond_answered _ s t hrun
  · exact hraise

theorem digestRange_answered (sp : Bool) (offset len : Int) (s t : State)
    (h : exec (.digestRange sp offset len) s = .next t) :
    ∃ d, Answered s t ⟨validate sp s.srcSize offset len, d⟩ := by
  rw [exec_digestRange] at h
  rcases rangeCommand_next _ sp offset len s t h with ⟨hv, hrun⟩ | hraise
  · rw [hv]
    exact absorbAndFinalize_answered _ s t hrun
  · exact ⟨0, hraise⟩

/-- Settles O26: a command that answers has raised a failure, or has absorbed and then responded or finalized. -/
theorem everyCommandRespondsOnceWithItsStatus : Obligations.EveryCommandRespondsOnceWithItsStatus := by
  intro i s t hi h
  cases i with
  | length =>
    cases h
    exact (answered_ok 128 s s rfl rfl rfl).exists_response rfl
  | reset =>
    cases h
    exact (answered_ok 0 s s.resetState rfl rfl rfl).exists_response rfl
  | updateByte data => exact (absorbAndRespond_answered [data] s t h).exists_response rfl
  | updateAll sp =>
    cases sp
    · cases h
      exact (answered_raise .invalidArgument s).exists_response rfl
    · exact (absorbAndRespond_answered s.src s t h).exists_response rfl
  | updateRange sp offset len =>
    exact (updateRange_answered sp offset len s t h).exists_response (congrArg (Response.mk · 0) (validate_eq _ _ _ _))
  | digestAll sp =>
    cases sp
    · cases h
      exact (answered_raise .invalidArgument s).exists_response rfl
    · obtain ⟨d, hd⟩ := absorbAndFinalize_answered s.src s t h
      exact hd.exists_response rfl
  | digestRange sp offset len =>
    obtain ⟨d, hd⟩ := digestRange_answered sp offset len s t h
    exact hd.exists_response (validate_eq _ _ _ _)
  | digest =>
    obtain ⟨d, hd⟩ := finalize_answered s t h
    exact hd.exists_response rfl
  | _ => cases hi

end Sys2Proof.Machine
end

section
/-! The identities of 30_encoding.md R89: whole-source forms, byte by byte, and update then digest. For these the
responses delivered so far are a field that absorbing carries along untouched. -/

namespace Sys2Proof.Machine

/-- The whole source is a valid range, and its bytes are the source. -/
theorem rangeCommand_whole (run : List Byte → State → Answer) (s : State) :
    rangeCommand run true 0 s.src.length s = run s.src s := by
  have hv : validate true s.srcSize 0 s.src.length = .ok := 
    (validate_ok _ _ _ _).2 ⟨rfl, by simp [RangeValid, State.srcSize]⟩
  have hbytes : s.sourceRange 0 s.src.length = s.src := by simp [State.sourceRange]
  rw [rangeCommand, if_pos hv, hbytes]

/-- Settles O28: with a source, the whole-source forms run on all its bytes, and so does the range of its size. -/
theorem updateAllIsTheFullRange : Obligations.UpdateAllIsTheFullRange := by
  refine fun s => ⟨?_, ?_⟩
  · rw [exec_updateRange, rangeCommand_whole]
    rfl
  · rw [exec_digestRange, rangeCommand_whole]
    rfl

/-- The state with further responses delivered. -/
def State.deliver (rs : List Response) (s : State) : State := { s with responses := s.responses ++ rs }

theorem respond_eq_deliver (st : Status) (d : Data) (s : State) : s.respond st d = s.deliver [⟨st, d⟩] := rfl

theorem deliver_deliver (rs rs' : List Response) (s : State) : (s.deliver rs).deliver rs' = s.deliver (rs ++ rs') := by
  simp [State.deliver]

variable (rs : List Response)

theorem stepOp_deliver (t : Nat) (s : State) : stepOp t (s.deliver rs) = (stepOp t s).deliver rs := by
  unfold stepOp
  cases roundOf t <;> rfl

theorem loadBlock_deliver (s : State) : (s.deliver rs).loadBlock = s.loadBlock.deliver rs := rfl

theorem foldBlock_deliver (s : State) : (s.deliver rs).foldBlock = s.foldBlock.deliver rs := rfl

theorem compress_deliver (s : State) : (s.deliver rs).compress = s.compress.deliver rs := by
  unfold State.compress
  rw [loadBlock_deliver, List.foldl_hom (State.deliver rs) fun u t => stepOp_deliver rs t u, foldBlock_deliver]

theorem absorb_deliver (s : State) (b : Byte) : absorb (s.deliver rs) b = (absorb s b).deliver rs := by
  by_cases hfull : s.bufLen = 63
  · rw [absorb_of_full s b hfull, absorb_of_full (s.deliver rs) b hfull]
    exact compress_deliver rs (s.pushByte b)
  · rw [absorb_of_room s b hfull, absorb_of_room (s.deliver rs) b hfull]
    rfl

theorem foldl_absorb_deliver (bs : List Byte) (s : State) :
    bs.foldl absorb (s.deliver rs) = (bs.foldl absorb s).deliver rs :=
  List.foldl_hom (State.deliver rs) (absorb_deliver rs)

/-- `UPDATE_BYTE` commands in a row absorb their bytes and deliver as many responses. -/
theorem execList_updateBytes (bs : List Byte) (s : State) (h : s.bufLen < 64) :
    execList (bs.map Instr.updateByte) s = .next ((bs.foldl absorb s).deliver (List.replicate bs.length ⟨.ok, 0⟩)) := by
  induction bs generalizing s with
  | nil => simp [execList, State.deliver]
  | cons b bs ih =>
    have hbyte : exec (.updateByte b) s = .next ((absorb s b).deliver [⟨.ok, 0⟩]) := absorbAndRespond_of_lt [b] s h
    have hrest := ih ((absorb s b).deliver [⟨.ok, 0⟩]) (absorb_lt s b h)
    rw [foldl_absorb_deliver, deliver_deliver] at hrest
    simp only [List.map_cons, execList, hbyte]
    exact hrest

/-- Between commands there is room for a byte (10_state.md R27). -/
theorem State.Accepting.bufLen_lt {s : State} (h : s.Accepting) : s.bufLen < 64 := Nat.lt_succ_of_le h

/-- Settles O29: both absorb the bytes of the range; the byte commands deliver one response each. -/
theorem updateRangeIsThatManyByteUpdates : Obligations.UpdateRangeIsThatManyByteUpdates := by
  intro s offset len hacc hoff hlen hfit
  have hroom := hacc.bufLen_lt
  have hv : validate true s.srcSize offset len = .ok := (validate_ok _ _ _ _).2 ⟨rfl, hoff, hlen, hfit⟩
  have hrange : exec (.updateRange true offset len) s = absorbAndRespond (s.sourceRange offset len) s := by
    rw [exec_updateRange, rangeCommand, if_pos hv]
  exact ⟨_, _, hrange.trans (absorbAndRespond_of_lt _ s hroom), execList_updateBytes _ s hroom,
    ⟨rfl, rfl, rfl, rfl⟩, rfl, rfl, rfl, rfl, rfl⟩

/-- `Finalize` with room in the buffer, after responses it does not read. -/
theorem finalize_deliver_of_lt (s : State) (h : s.bufLen < 64) :
    finalize (s.deliver rs) = .next (((s.padding.foldl absorb s).deliver rs).resetState.respond .ok
      (packBytes (serialise (s.padding.foldl absorb s).acc))) := by
  have hpad : (s.deliver rs).padding = s.padding := rfl
  rw [finalize_of_lt (s.deliver rs) h, hpad, foldl_absorb_deliver]
  rfl

/-- Settles O52: both finalize what absorbing the source left; the update has delivered one response more. -/
theorem digestAllIsUpdateAllThenDigest : Obligations.DigestAllIsUpdateAllThenDigest := by
  intro s hacc
  have hroom := hacc.bufLen_lt
  obtain ⟨hlt, -, -, -⟩ := foldl_absorb_frame s.src s
  refine ⟨_, _, _, absorbAndRespond_of_lt s.src s hroom, finalize_deliver_of_lt _ _ (hlt hroom),
    (absorbAndFinalize_of_lt s.src s hroom).trans (finalize_of_lt _ (hlt hroom)), ⟨rfl, rfl, rfl, rfl⟩, ?_, rfl, rfl⟩
  rw [State.respond_responses, State.respond_responses, List.getLast?_concat, List.getLast?_concat]

end Sys2Proof.Machine
end

section
/-! The simple commands of the contract, `LENGTH` and `RESET` (40_contract_commands.md R110, R111), in every state. -/

namespace Sys2Proof.Machine

/-- The obligations' way to say "one more response and nothing else" is the model's `respond`. -/
theorem respond_eq_plus (st : Status) (d : Data) (s : State) : s.respond st d = s.plus st d := rfl

theorem exec_length (s : State) : exec .length s = .next (s.respond .ok 128#128) := rfl

theorem exec_reset (s : State) : exec .reset s = .next (s.resetState.respond .ok 0) := rfl

/-- Settles O17: opcode 0 alone selects `LENGTH`, which responds and does nothing else. -/
theorem lengthAnswers128 : Obligations.LengthAnswers128 := by
  refine ⟨fun w hop => ?_, fun s => ?_⟩
  · rw [decode, decodeCommand_eq_length w hop]
  · rw [exec_length, respond_eq_plus]

/-- Settles O18: opcode 1 alone selects `RESET`, which is `ResetState` and then a response; the values of R111 are
those of `ResetState`. -/
theorem resetCommandReinitialises : Obligations.ResetCommandReinitialises := by
  refine ⟨fun w hop => ?_, fun s => ?_⟩
  · rw [decode, decodeCommand_eq_reset w hop]
  · rw [exec_reset, State.respond, State.resetState, iv, zeroBuf]

end Sys2Proof.Machine
end

section
/-! What an update does where it absorbs no byte, one byte with room left, or has no room (41_update_buffering.md R120
to R124, R128). -/

namespace Sys2Proof.Machine

theorem exec_updateByte (b : Byte) (s : State) : exec (.updateByte b) s = absorbAndRespond [b] s := rfl

theorem exec_updateAll_source (s : State) : exec (.updateAll true) s = absorbAndRespond s.src s := rfl

theorem exec_digestAll_source (s : State) : exec (.digestAll true) s = absorbAndFinalize s.src s := rfl

theorem exec_digest (s : State) : exec .digest s = finalize s := rfl

/-- A range that validation passes is run on its bytes. -/
theorem rangeCommand_of_valid (run : List Byte → State → Answer) (offset len : Int) (s : State)
    (h : RangeValid s.src.length offset len) :
    rangeCommand run true offset len s = run (s.sourceRange offset len) s :=
  if_pos ((validate_ok _ _ _ _).2 ⟨rfl, h⟩)

/-- A valid range has as many bytes as its length says. -/
theorem sourceRange_length (offset len : Int) (s : State) (h : RangeValid s.src.length offset len) :
    (s.sourceRange offset len).length = len.toNat := by
  obtain ⟨hoff, hlen, hfit⟩ := h
  rw [State.sourceRange, List.length_take, List.length_drop]
  omega

theorem sourceRange_getElem? (offset len : Int) (s : State) (k : Nat) (hk : k < len.toNat) :
    (s.sourceRange offset len)[k]? = s.src[offset.toNat + k]? := by
  rw [State.sourceRange, List.getElem?_take_of_lt hk, List.getElem?_drop]

/-- Without bytes there is nothing to absorb, so no precondition to miss (R128). -/
theorem absorbAndRespond_nil (s : State) : absorbAndRespond [] s = .next (s.respond .ok 0) := by
  simp only [absorbAndRespond, absorbAll_nil, done]

/-- Settles O23: both commands have no byte to absorb. -/
theorem updateOfNoBytesOnlyResponds : Obligations.UpdateOfNoBytesOnlyResponds := by
  refine fun s offset => ⟨fun hsrc => ?_, fun hoff hfit => ?_⟩
  · rw [exec_updateAll_source, hsrc, absorbAndRespond_nil, respond_eq_plus]
  · have hvalid : RangeValid s.src.length offset 0 := ⟨hoff, le_rfl, by omega⟩
    have hbytes : s.sourceRange offset 0 = [] := List.eq_nil_of_length_eq_zero (sourceRange_length offset 0 s hvalid)
    rw [exec_updateRange, rangeCommand_of_valid _ _ _ _ hvalid, hbytes, absorbAndRespond_nil, respond_eq_plus]

/-! Outside the precondition of `Absorb` (log entry 8). -/

theorem absorbAndRespond_noRoom (bs : List Byte) (s : State) (hroom : ¬ s.bufLen < 64) (hbs : bs ≠ []) :
    absorbAndRespond bs s = .fault .bufferLengthOutOfRange := by
  simp only [absorbAndRespond, (absorbAll_none bs s).2 ⟨hbs, hroom⟩]

theorem finalize_noRoom (s : State) (hroom : ¬ s.bufLen < 64) : finalize s = .fault .bufferLengthOutOfRange := by
  simp only [finalize, (absorbAll_none s.padding s).2 ⟨padding_ne_nil s, hroom⟩]

/-- There is padding to absorb even where the message part is empty (43_finalize_padding.md R182). -/
theorem absorbAndFinalize_noRoom (bs : List Byte) (s : State) (hroom : ¬ s.bufLen < 64) :
    absorbAndFinalize bs s = .fault .bufferLengthOutOfRange := by
  by_cases hbs : bs = []
  · rw [hbs, absorbAndFinalize_nil, finalize_noRoom s hroom]
  · simp only [absorbAndFinalize, (absorbAll_none bs s).2 ⟨hbs, hroom⟩]

/-- Settles O27: an update of at least one byte, and every finalizing command, meets the failing precondition. -/
theorem absorbingNeedsRoom : Obligations.AbsorbingNeedsRoom := by
  intro s hlen
  have hroom : ¬ s.bufLen < 64 := Nat.not_lt.2 hlen
  refine ⟨fun b => absorbAndRespond_noRoom [b] s hroom (List.cons_ne_nil b []),
    absorbAndRespond_noRoom s.src s hroom, fun offset len hoff hpos hfit => ?_, finalize_noRoom s hroom,
    absorbAndFinalize_noRoom s.src s hroom, fun offset len hoff hnonneg hfit => ?_⟩
  · have hvalid : RangeValid s.src.length offset len := ⟨hoff, hpos.le, hfit⟩
    have hbytes : s.sourceRange offset len ≠ [] :=
      List.ne_nil_of_length_pos (by rw [sourceRange_length offset len s hvalid]; omega)
    rw [exec_updateRange, rangeCommand_of_valid _ _ _ _ hvalid, absorbAndRespond_noRoom _ s hroom hbytes]
  · rw [exec_digestRange, rangeCommand_of_valid _ _ _ _ ⟨hoff, hnonneg, hfit⟩, absorbAndFinalize_noRoom _ s hroom]

/-- `UPDATE_BYTE` where there is room for its byte (R121). -/
theorem exec_updateByte_of_lt (b : Byte) (s : State) (h : s.bufLen < 64) :
    exec (.updateByte b) s = .next ((absorb s b).respond .ok 0) :=
  absorbAndRespond_of_lt [b] s h

/-- The stored byte stands at `bufLen`, and every other byte of the buffer is as before (R120). -/
theorem pushByte_buf_getElem (b : Byte) (s : State) (i : Fin 64) :
    (s.pushByte b).buf[i] = if i.val = s.bufLen.toNat then b else s.buf[i] := by
  rw [State.pushByte_buf, Fin.getElem_fin, Vector.getElem_setIfInBounds i.isLt]
  simp only [eq_comm, Fin.getElem_fin]

/-- Settles O19: below 63 bytes `Absorb` only stores the byte. -/
theorem updateByteStoresTheByte : Obligations.UpdateByteStoresTheByte := by
  intro b s hlen
  have hroom : s.bufLen < 64 := Nat.lt_trans hlen (by decide)
  have hnot63 : s.bufLen ≠ 63 := by bv_omega
  refine ⟨(s.pushByte b).respond .ok 0, ?_, ?_, pushByte_buf_getElem b s, rfl, rfl, rfl, rfl, rfl, rfl, rfl, rfl⟩
  · rw [exec_updateByte_of_lt b s hroom, absorb_of_room s b hnot63]
  · rw [State.respond_bufLen, State.pushByte_bufLen]; bv_omega

end Sys2Proof.Machine
end

section
/-! `Compress` against the reference compression (42_compression.md R140 to R158). The machine leaves the working
variables where they are and names them by the part they play; the reference moves them through the parts. -/

namespace Sys2Proof.Machine

/-- The number by which the reference names a round. -/
def Round.index : Round → Nat
  | .r1 => 0
  | .r2 => 1
  | .r3 => 2

theorem roundOf_index (t : Nat) (h : t < 48) : (roundOf t).index = t / 16 := by
  have hround : t / 16 = 0 ∨ t / 16 = 1 ∨ t / 16 = 2 := by omega
  unfold roundOf
  rcases hround with h | h | h <;> rw [h] <;> rfl

/-! The ROM rows are the reference's closed forms (R151 to R153). -/

theorem romK_eq_reference (r : Round) (j : Fin 16) : (romK r)[j].val = refWordIndex r.index j.val := by
  cases r <;> revert j <;> decide

theorem romS_eq_reference (r : Round) (q : Fin 4) : (romS r)[q] = refRot r.index q.val := by
  cases r <;> revert q <;> decide

theorem romS_lt (r : Round) (q : Fin 4) : (romS r)[q] < 32 := by
  cases r <;> revert q <;> decide

theorem rotl32_eq_rotateLeft (p : Word) (n : Nat) (h : n < 32) : rotl32 p n = p.rotateLeft n := by
  rw [rotl32, or32, BitVec.rotateLeft_def, Nat.mod_eq_of_lt h]

theorem not32_eq (p : Word) : not32 p = ~~~p := BitVec.xor_allOnes

/-- One operation of a round in the reference's terms (R147 to R149). -/
theorem roundOp_eq_reference (r : Round) (a b c d : Fin 4) (k : Fin 16) (n : Nat) (hn : n < 32) (s : State) :
    roundOp r a b c d k n s =
      s.setWork a ((s.v[a] + refMix r.index s.v[b] s.v[c] s.v[d] + s.x[k] + refConst r.index).rotateLeft n) := by
  cases r with
  | r1 =>
    simp only [roundOp, op1, add32, mixF, or32, and32, not32_eq, rotl32_eq_rotateLeft _ n hn, Round.index, refMix,
      refConst, BitVec.add_zero]
  | r2 =>
    simp only [roundOp, op2, add32, mixG, or32, and32, rotl32_eq_rotateLeft _ n hn, Round.index, refMix, refConst,
      romT2]
  | r3 => simp only [roundOp, op3, add32, mixH, xor32, rotl32_eq_rotateLeft _ n hn, Round.index, refMix, refConst, romT3]

/-! The parts of the working variables (R150). -/

/-- The working variables by the parts they play when variable `a` plays the first. -/
def rolesFrom (v : Vector Word 4) (a : Fin 4) : Roles := ⟨v[a], v[a + 1], v[a + 2], v[a + 3]⟩

/-- The variable that plays the first part in operation `t` (R150). -/
def firstRole (t : Nat) : Fin 4 := Fin.ofNat 4 (4 - (Fin.ofNat 4 t).val)

theorem firstRole_succ (t : Nat) : firstRole (t + 1) = firstRole t + 3 := by
  have hmod : t % 4 = 0 ∨ t % 4 = 1 ∨ t % 4 = 2 ∨ t % 4 = 3 := by omega
  rcases hmod with h | h | h | h <;> simp [firstRole, Fin.ofNat, Nat.add_mod, h]

/-- Writing the first part and moving on by one variable makes it the second. -/
theorem rolesFrom_set (v : Vector Word 4) (a : Fin 4) (w : Word) :
    rolesFrom (v.set a w) (a + 3) = ⟨v[a + 3], w, v[a + 1], v[a + 2]⟩ := by
  match a with
  | 0 => simp [rolesFrom]
  | 1 => simp [rolesFrom]
  | 2 => simp [rolesFrom]
  | 3 => simp [rolesFrom]

theorem toList_getD_fin (x : Vector Word 16) (k : Fin 16) : x.toList.getD k.val 0 = x[k] := by
  simp [List.getD_eq_getElem?_getD]

/-- `Step(t)` writes to the variable of the first part what the reference's operation gives the second. -/
theorem stepOp_eq_reference (t : Nat) (h : t < 48) (s : State) :
    stepOp t s = s.setWork (firstRole t) (refStep s.x.toList (rolesFrom s.v (firstRole t)) t).b := by
  have hword := romK_eq_reference (roundOf t) (Fin.ofNat 16 t)
  have hrot := romS_eq_reference (roundOf t) (Fin.ofNat 4 t)
  have hindex := roundOf_index t h
  rw [hindex] at hword hrot
  have hx : s.x.toList.getD (refWordIndex (t / 16) (t % 16)) 0 = s.x[(romK (roundOf t))[Fin.ofNat 16 t]] :=
    (congrArg (s.x.toList.getD · 0) hword.symm).trans (toList_getD_fin _ _)
  have hn : refRot (t / 16) (t % 4) = (romS (roundOf t))[Fin.ofNat 4 t] := hrot.symm
  rw [refStep, hx, hn, ← hindex]
  exact roundOp_eq_reference _ _ _ _ _ _ _ (romS_lt _ _) s

theorem stepOp_roles (t : Nat) (h : t < 48) (s : State) :
    rolesFrom (stepOp t s).v (firstRole (t + 1)) = refStep s.x.toList (rolesFrom s.v (firstRole t)) t := by
  rw [stepOp_eq_reference t h, State.setWork_v, firstRole_succ, rolesFrom_set]
  rfl

theorem foldl_stepOp_x (l : List Nat) (s : State) : (l.foldl (fun u t => stepOp t u) s).x = s.x := by
  obtain ⟨w, h⟩ := foldl_stepOp_eq l s
  rw [h]

/-- The first `n` operations, part by part. -/
theorem foldl_stepOp_roles (n : Nat) (h : n ≤ 48) (s : State) :
    rolesFrom ((List.range n).foldl (fun u t => stepOp t u) s).v (firstRole n) =
      (List.range n).foldl (refStep s.x.toList) (rolesFrom s.v (firstRole 0)) := by
  induction n with
  | zero => rfl
  | succ n ih =>
    rw [List.range_succ, List.foldl_append, List.foldl_append, List.foldl_cons, List.foldl_cons, List.foldl_nil,
      List.foldl_nil, stepOp_roles n h, foldl_stepOp_x, ih (Nat.le_of_succ_le h)]

/-! The message words (R141, 20_memory.md R51). -/

theorem le32dec_eq_ofNat (b0 b1 b2 b3 : Byte) :
    le32dec b0 b1 b2 b3 = BitVec.ofNat 32 (b0.toNat + 2 ^ 8 * b1.toNat + 2 ^ 16 * b2.toNat + 2 ^ 24 * b3.toNat) := by
  have h0 := b0.isLt
  have h1 := b1.isLt
  have h2 := b2.isLt
  apply BitVec.eq_of_toNat_eq
  rw [le32dec, BitVec.toNat_append, BitVec.toNat_append, BitVec.toNat_append, ← Nat.shiftLeft_add_eq_or_of_lt h2,
    ← Nat.shiftLeft_add_eq_or_of_lt h1, ← Nat.shiftLeft_add_eq_or_of_lt h0, BitVec.toNat_ofNat]
  simp only [Nat.shiftLeft_eq]
  omega

theorem toList_getD_of_lt (buf : Vector Byte 64) (i : Nat) (h : i < 64) : buf.toList.getD i 0 = buf[i] := by
  simp [List.getD_eq_getElem?_getD, h]

theorem blockWords_getElem (s : State) (k : Fin 16) : s.blockWords[k] = s.bufRead32 k := by
  obtain ⟨k, hk⟩ := k
  interval_cases k <;> rfl

theorem blockWords_eq_refWords (s : State) : s.blockWords.toList = refWords s.buf.toList := by
  refine List.ext_getElem (by simp [refWords]) fun k hk _ => ?_
  have hk' : k < 16 := by simpa using hk
  have hword := blockWords_getElem s ⟨k, hk'⟩
  simp only [Fin.getElem_fin, State.bufRead32, le32dec_eq_ofNat] at hword
  rw [Vector.getElem_toList, hword]
  simp only [refWords, List.getElem_map, List.getElem_range]
  rw [toList_getD_of_lt _ (4 * k) (by omega), toList_getD_of_lt _ (4 * k + 1) (by omega),
    toList_getD_of_lt _ (4 * k + 2) (by omega), toList_getD_of_lt _ (4 * k + 3) (by omega)]

/-! The feed-forward (R155). -/

/-- The sums of an accumulator and the four parts. -/
def addRoles (acc : Vector Word 4) (p : Roles) : Vector Word 4 := #v[acc[0] + p.a, acc[1] + p.b, acc[2] + p.c, acc[3] + p.d]

theorem feedForward_eq_addRoles (s : State) : s.feedForward = addRoles s.acc (rolesFrom s.v 0) := rfl

theorem refCompress_eq_addRoles (acc : Vector Word 4) (block : List Byte) :
    refCompress acc block = addRoles acc ((List.range 48).foldl (refStep (refWords block)) (rolesFrom acc 0)) := rfl

/-- The accumulator that `Compress` leaves is the reference's (R140, R155, R158). -/
theorem State.compress_acc (s : State) : s.compress.acc = refCompress s.acc s.buf.toList := by
  have hroles := foldl_stepOp_roles 48 le_rfl s.loadBlock
  have hfirst : firstRole 48 = 0 ∧ firstRole 0 = 0 := by decide
  rw [hfirst.1, hfirst.2, State.loadBlock_x, State.loadBlock_v, blockWords_eq_refWords] at hroles
  rw [State.compress, State.foldBlock_acc, feedForward_eq_addRoles, foldl_stepOp_acc, State.loadBlock_acc, hroles,
    refCompress_eq_addRoles]

end Sys2Proof.Machine
end

section
/-! The closed form of absorbing a stream (41_update_buffering.md R127), byte by byte: a byte that leaves room is only
stored, the 64th completes a block of the stream. -/

namespace Sys2Proof.Machine

/-! The whole blocks of a stream one byte longer. -/

/-- A block inside a stream does not see what follows it. -/
theorem block_append (m m' : List Byte) (q : Nat) (h : 64 * (q + 1) ≤ m.length) :
    ((m ++ m').drop (64 * q)).take 64 = (m.drop (64 * q)).take 64 := by
  rw [List.drop_append_of_le_length (by omega), List.take_append_of_le_length (by rw [List.length_drop]; omega)]

theorem foldl_blocks_append (acc : Vector Word 4) (m m' : List Byte) (n : Nat) (h : 64 * n ≤ m.length) :
    (List.range n).foldl (fun u q => refCompress u (((m ++ m').drop (64 * q)).take 64)) acc =
      (List.range n).foldl (fun u q => refCompress u ((m.drop (64 * q)).take 64)) acc := by
  refine List.foldl_ext _ _ acc fun u q hq => ?_
  have hlt : q < n := List.mem_range.1 hq
  rw [block_append m m' q (by omega)]

theorem refBlocks_of_short (acc : Vector Word 4) (m : List Byte) (h : m.length < 64) : refBlocks acc m = acc := by
  rw [refBlocks, Nat.div_eq_of_lt h]
  rfl

theorem refBlocks_concat_of_room (acc : Vector Word 4) (m : List Byte) (b : Byte) (h : m.length % 64 ≠ 63) :
    refBlocks acc (m ++ [b]) = refBlocks acc m := by
  have hblocks : (m ++ [b]).length / 64 = m.length / 64 := by rw [List.length_append, List.length_singleton]; omega
  rw [refBlocks, hblocks, foldl_blocks_append acc m [b] _ (by omega), refBlocks]

theorem refBlocks_concat_of_full (acc : Vector Word 4) (m : List Byte) (b : Byte) (h : m.length % 64 = 63) :
    refBlocks acc (m ++ [b]) = refCompress (refBlocks acc m) (m.drop (64 * (m.length / 64)) ++ [b]) := by
  have hblocks : (m ++ [b]).length / 64 = m.length / 64 + 1 := by
    rw [List.length_append, List.length_singleton]; omega
  have hlast : ((m ++ [b]).drop (64 * (m.length / 64))).take 64 = m.drop (64 * (m.length / 64)) ++ [b] := by
    rw [List.drop_append_of_le_length (by omega)]
    exact List.take_of_length_le (by rw [List.length_append, List.length_drop, List.length_singleton]; omega)
  rw [refBlocks, hblocks, List.range_succ, List.foldl_append, List.foldl_cons, List.foldl_nil, hlast,
    foldl_blocks_append acc m [b] _ (by omega), refBlocks]

/-! One byte (R120). -/

theorem pending_length (s : State) (h : s.bufLen < 64) : s.pending.length = s.bufLen.toNat := by
  have hlt : s.bufLen.toNat < 64 := h
  rw [State.pending, List.length_take, Vector.length_toList]
  omega

/-- The byte that fills the buffer makes it the bytes received so far and that byte. -/
theorem pushByte_buf_of_full (s : State) (b : Byte) (h : s.bufLen = 63) :
    (s.pushByte b).buf.toList = s.pending ++ [b] := by
  have hfull : (s.pushByte b).bufLen = 64 := by rw [State.pushByte_bufLen, h]; rfl
  rw [← pending_of_full _ hfull, pending_pushByte s b (by rw [h]; decide)]

theorem absorb_acc_of_full (s : State) (b : Byte) (h : s.bufLen = 63) :
    (absorb s b).acc = refCompress s.acc (s.pending ++ [b]) := by
  rw [absorb_of_full s b h, State.compress_acc, State.pushByte_acc, pushByte_buf_of_full s b h]

/-- Settles O20: the 64th byte completes the block, and `Compress` is the reference compression of it. -/
theorem updateByteCompressesAFullBuffer : Obligations.UpdateByteCompressesAFullBuffer := by
  intro b s hlen
  have hfull : s.bufLen = 63 := BitVec.eq_of_toNat_eq hlen
  have hacc : (absorb s b).acc = refCompress s.acc (s.buf.toList.take 63 ++ [b]) := by
    rw [absorb_acc_of_full s b hfull, State.pending, hlen]
  have hx := exec_updateByte_of_lt b s (by rw [hfull]; decide)
  rw [absorb_of_full s b hfull] at hx hacc
  refine ⟨_, hx, rfl, ?_, fun i => zeroBuf_getElem i i.isLt, hacc, ?_, rfl, rfl, rfl, ?_, ?_⟩
  · rw [State.respond_cnt, State.compress_cnt]; rfl
  · rw [State.respond_responses, State.compress_responses]; rfl
  · rw [State.respond_src, State.compress_src]; rfl
  · rw [State.respond_inputs, State.compress_inputs]; rfl

/-! A stream (R127). -/

theorem absorbed_nil (s : State) (h : s.bufLen < 64) : Absorbed s [] s where
  bufLen := (Nat.mod_eq_of_lt h).symm
  cnt := by simp [Nat.div_eq_of_lt (show s.bufLen.toNat < 64 from h)]
  acc := by
    rw [List.append_nil, refBlocks_of_short]
    rw [pending_length s h]; exact h
  pending := by simp [Nat.div_eq_of_lt (show s.bufLen.toNat < 64 from h)]
  tail _ _ := (if_pos h).symm
  noBlock _ := ⟨rfl, rfl, rfl⟩
  someBlock hge := absurd h (Nat.not_lt.2 hge)
  src := rfl
  inputs := rfl

/-- What the stream holds so far, counted. -/
theorem stream_length (s : State) (bs : List Byte) (h : s.bufLen < 64) :
    (s.pending ++ bs).length = s.bufLen.toNat + bs.length := by
  rw [List.length_append, pending_length s h]

namespace Absorbed

/-- A byte that leaves room is stored behind the others. -/
theorem concat_of_room {s t : State} {bs : List Byte} (ht : Absorbed s bs t) (h : s.bufLen < 64) (b : Byte)
    (hroom : t.bufLen ≠ 63) : Absorbed s (bs ++ [b]) (t.pushByte b) := by
  have hstream := stream_length s bs h
  have hlen := ht.bufLen
  have hlt : t.bufLen < 64 := show t.bufLen.toNat < 64 by omega
  have hne : t.bufLen.toNat ≠ 63 := fun he => hroom (BitVec.eq_of_toNat_eq he)
  have hpush : (t.pushByte b).bufLen.toNat = t.bufLen.toNat + 1 := by rw [State.pushByte_bufLen]; bv_omega
  have hsucc : s.bufLen.toNat + (bs ++ [b]).length = s.bufLen.toNat + bs.length + 1 := by
    rw [List.length_append, List.length_singleton, Nat.add_assoc]
  have hblocks : (s.bufLen.toNat + (bs ++ [b]).length) / 64 = (s.bufLen.toNat + bs.length) / 64 := by omega
  have hshort : s.bufLen.toNat + (bs ++ [b]).length < 64 ↔ s.bufLen.toNat + bs.length < 64 := by omega
  exact {
    bufLen := by rw [hpush, hsucc]; omega
    cnt := by rw [hblocks]; exact ht.cnt
    acc := by
      rw [State.pushByte_acc, ← List.append_assoc, refBlocks_concat_of_room _ _ b (by omega), ht.acc]
    pending := by
      rw [hblocks, pending_pushByte t b hlt, ht.pending, ← List.append_assoc,
        List.drop_append_of_le_length (l₂ := [b]) (by omega)]
    tail := fun i hi => by
      rw [pushByte_buf_getElem, if_neg (by omega), ht.tail i (by omega)]
      simp only [hshort]
    noBlock := fun hlt => ht.noBlock (hshort.1 hlt)
    someBlock := fun hge => ht.someBlock (by omega)
    src := ht.src
    inputs := ht.inputs }

/-- The byte that completes a block of the stream has it compressed, and the buffer is empty again. -/
theorem concat_of_full {s t : State} {bs : List Byte} (ht : Absorbed s bs t) (h : s.bufLen < 64) (b : Byte)
    (hfull : t.bufLen = 63) : Absorbed s (bs ++ [b]) (t.pushByte b).compress := by
  have hstream := stream_length s bs h
  have hmod : (s.bufLen.toNat + bs.length) % 64 = 63 := by rw [← ht.bufLen, hfull]; rfl
  have hsucc : s.bufLen.toNat + (bs ++ [b]).length = s.bufLen.toNat + bs.length + 1 := by
    rw [List.length_append, List.length_singleton, Nat.add_assoc]
  have hblocks : (s.bufLen.toNat + (bs ++ [b]).length) / 64 = (s.bufLen.toNat + bs.length) / 64 + 1 := by omega
  exact {
    bufLen := by rw [hsucc]; exact (show 0 = _ by omega)
    cnt := by
      rw [State.compress_cnt, State.pushByte_cnt, ht.cnt, add64, BitVec.add_assoc, hblocks, Nat.mul_succ,
        BitVec.ofNat_add]
      rfl
    acc := by
      rw [← absorb_of_full t b hfull, absorb_acc_of_full t b hfull, ht.acc, ht.pending, ← List.append_assoc,
        refBlocks_concat_of_full _ _ b (by omega), hstream]
    pending := by
      rw [pending_of_empty _ (t.pushByte b).compress_bufLen, List.drop_eq_nil_of_le]
      rw [← List.append_assoc, List.length_append, hstream, List.length_singleton]
      omega
    tail := fun i _ => by
      rw [if_neg (by omega)]
      exact zeroBuf_getElem i i.isLt
    noBlock := fun hlt => absurd hlt (by omega)
    someBlock := fun _ => ⟨rfl, rfl, rfl⟩
    src := by rw [State.compress_src, State.pushByte_src, ht.src]
    inputs := by rw [State.compress_inputs, State.pushByte_inputs, ht.inputs] }

theorem concat {s t : State} {bs : List Byte} (ht : Absorbed s bs t) (h : s.bufLen < 64) (b : Byte) :
    Absorbed s (bs ++ [b]) (absorb t b) := by
  by_cases hfull : t.bufLen = 63
  · rw [absorb_of_full t b hfull]
    exact ht.concat_of_full h b hfull
  · rw [absorb_of_room t b hfull]
    exact ht.concat_of_room h b hfull

/-- The response is no part of what absorbing leaves. -/
theorem respond {s t : State} {bs : List Byte} (ht : Absorbed s bs t) (st : Status) (d : Data) :
    Absorbed s bs (t.respond st d) :=
  ⟨ht.bufLen, ht.cnt, ht.acc, ht.pending, ht.tail, ht.noBlock, ht.someBlock, ht.src, ht.inputs⟩

end Absorbed

/-- Absorbing the bytes of a list one after another is the closed form of R127. -/
theorem foldl_absorb_absorbed (bs : List Byte) (s : State) (h : s.bufLen < 64) : Absorbed s bs (bs.foldl absorb s) := by
  induction bs using List.reverseRecOn with
  | nil => exact absorbed_nil s h
  | append_singleton bs b ih =>
    rw [List.foldl_append, List.foldl_cons, List.foldl_nil]
    exact ih.concat h b

/-- An update that has passed validation, in a state with room. -/
theorem absorbAndRespond_absorbed (bs : List Byte) (s : State) (h : s.bufLen < 64) :
    ∃ t, absorbAndRespond bs s = .next t ∧ Absorbed s bs t ∧ t.responses = s.responses ++ [⟨.ok, 0⟩] :=
  ⟨_, absorbAndRespond_of_lt bs s h, (foldl_absorb_absorbed bs s h).respond .ok 0, by
    rw [State.respond_responses, foldl_absorb_responses]⟩

/-- Settles O21: with a source, the bytes absorbed are the source. -/
theorem updateAllAbsorbsTheSource : Obligations.UpdateAllAbsorbsTheSource := by
  intro s hacc
  rw [exec_updateAll_source]
  exact absorbAndRespond_absorbed s.src s hacc.bufLen_lt

/-- Settles O22: a valid range is absorbed byte by byte in its order. -/
theorem updateRangeAbsorbsTheRange : Obligations.UpdateRangeAbsorbsTheRange := by
  intro s offset len hacc hoff hlen hfit
  have hvalid : RangeValid s.src.length offset len := ⟨hoff, hlen, hfit⟩
  obtain ⟨t, hx, habsorbed, hresp⟩ := absorbAndRespond_absorbed (s.sourceRange offset len) s hacc.bufLen_lt
  refine ⟨s.sourceRange offset len, t, sourceRange_length offset len s hvalid,
    sourceRange_getElem? offset len s, ?_, habsorbed, hresp⟩
  rw [exec_updateRange, rangeCommand_of_valid _ _ _ _ hvalid, hx]

end Sys2Proof.Machine
end

section
/-! The digest as a function of the stream (43_finalize_padding.md R180 to R186, R192): the padding and the result bytes
are the reference's, and `Finalize` depends on the four architectural items alone. -/

namespace Sys2Proof.Machine

/-! Bytes of words (20_memory.md R52, 30_encoding.md R87). -/

theorem extractByte_eq_ofNat {n : Nat} (w : BitVec n) (j : Nat) :
    w.extractLsb' (8 * j) 8 = BitVec.ofNat 8 (w.toNat / 256 ^ j) := by
  rw [show (256 : Nat) = 2 ^ 8 from rfl, ← Nat.pow_mul, ← Nat.shiftRight_eq_div_pow]
  rfl

theorem le32enc_eq_map (w : Word) : le32enc w = (List.range 4).map fun j => BitVec.ofNat 8 (w.toNat / 256 ^ j) := by
  simp only [← extractByte_eq_ofNat]
  rfl

theorem accumulator_toList (acc : Vector Word 4) : acc.toList = [acc[0], acc[1], acc[2], acc[3]] := by
  refine List.ext_getElem (by simp) fun i hi _ => ?_
  have hlt : i < 4 := by simpa using hi
  interval_cases i <;> rfl

theorem serialise_eq_refBytes (acc : Vector Word 4) : serialise acc = refBytes acc := by
  simp only [serialise, refBytes, accumulator_toList, le32enc_eq_map, List.flatMap_cons, List.flatMap_nil,
    List.append_nil, List.append_assoc]

theorem packBytes_extract_head (b : Byte) (bs : List Byte) : (packBytes (b :: bs)).extractLsb' (8 * 0) 8 = b := by
  ext k hk
  simp [packBytes, hk]
  omega

theorem packBytes_extract_tail (b : Byte) (bs : List Byte) (i : Nat) (hi : i + 1 < 16) :
    (packBytes (b :: bs)).extractLsb' (8 * (i + 1)) 8 = (packBytes bs).extractLsb' (8 * i) 8 := by
  ext k hk
  have hwidth : 8 * (i + 1) + k < 128 := by omega
  have hindex : 8 * (i + 1) + k - 8 = 8 * i + k := by omega
  have hbeyond : b.getLsbD (8 * (i + 1) + k) = false := BitVec.getLsbD_of_ge b _ (by omega)
  have hshifted : ¬ 8 * (i + 1) + k < 8 := by omega
  simp only [packBytes, BitVec.getElem_extractLsb', BitVec.getLsbD_or, BitVec.getLsbD_shiftLeft,
    BitVec.getLsbD_setWidth, hwidth, hindex, hbeyond, hshifted, decide_true, decide_false, Bool.not_false,
    Bool.true_and, Bool.and_false, Bool.or_false]

/-- Byte `i` of the packed bytes is the list's (R87, D18). -/
theorem packBytes_extractByte (l : List Byte) (i : Nat) (hi : i < 16) (h : i < l.length) :
    (packBytes l).extractLsb' (8 * i) 8 = l[i] := by
  induction l generalizing i with
  | nil => exact absurd h (Nat.not_lt_zero i)
  | cons b bs ih =>
    cases i with
    | zero => exact packBytes_extract_head b bs
    | succ i =>
      rw [packBytes_extract_tail b bs i hi, List.getElem_cons_succ]
      exact ih i (by omega) _

theorem dataBytes_packBytes (l : List Byte) (h : l.length = 16) : dataBytes (packBytes l) = l := by
  refine List.ext_getElem (by simp [dataBytes, h]) fun i hi hl => ?_
  simp only [dataBytes, List.getElem_map, List.getElem_range]
  exact packBytes_extractByte l i (h ▸ hl) hl

theorem dataBytes_serialise (acc : Vector Word 4) : dataBytes (packBytes (serialise acc)) = refBytes acc := by
  rw [dataBytes_packBytes (serialise acc) rfl, serialise_eq_refBytes]

/-! The padding (R181 to R183). -/

theorem lengthBytes_ofNat (n : Nat) : lengthBytes (BitVec.ofNat 64 n) = refLe64 n := by
  simp only [lengthBytes, le32enc, refLe64, List.range_succ, List.range_zero, List.map_cons, List.map_nil,
    List.nil_append, List.cons_append, List.cons.injEq, ← BitVec.toNat_inj, BitVec.extractLsb'_toNat,
    BitVec.toNat_ofNat, Nat.shiftRight_eq_div_pow, and_true]
  omega

/-- The padding of a buffer that holds the last bytes of a stream of `n` is the stream's. -/
theorem padding_eq_refPad (s : State) (n bits : Nat) (hlen : s.bufLen.toNat = n % 64)
    (hbits : s.bitLen = BitVec.ofNat 64 bits) : s.padding = refPad n bits := by
  have hzeros : s.padLen - 9 = (64 - (n + 9) % 64) % 64 := by
    simp only [State.padLen, padLenOf, Config.blockSize, Config.padMin, hlen]
    split <;> omega
  rw [State.padding, hzeros, hbits, lengthBytes_ofNat, refPad]

theorem Absorbed.bitLen {s t : State} {bs : List Byte} (h : Absorbed s bs t) :
    t.bitLen = BitVec.ofNat 64 (8 * (s.cnt.toNat + s.bufLen.toNat + bs.length)) := by
  have hlen := h.bufLen
  have hlt : t.bufLen.toNat < 128 := t.bufLen.isLt
  apply BitVec.eq_of_toNat_eq
  simp only [State.bitLen, mul64, add64, h.cnt, BitVec.toNat_mul, BitVec.toNat_add, BitVec.toNat_ofNat,
    BitVec.toNat_setWidth, BitVec.reduceToNat]
  omega

theorem Absorbed.padding {s t : State} {bs : List Byte} (h : Absorbed s bs t) :
    t.padding = refPad (s.bufLen.toNat + bs.length) (8 * (s.cnt.toNat + s.bufLen.toNat + bs.length)) :=
  padding_eq_refPad t _ _ h.bufLen h.bitLen

/-! The result of `Finalize` (R187). -/

/-- The data that `Finalize` responds with. -/
def State.digestData (s : State) : Data := packBytes (serialise (s.padding.foldl absorb s).acc)

theorem finalize_eq_digestData (s : State) (h : s.bufLen < 64) :
    finalize s = .next ((s.padding.foldl absorb s).resetState.respond .ok s.digestData) :=
  finalize_of_lt s h

/-- After absorbing bytes the result is the reference's for the whole stream and its padding (R192). -/
theorem dataBytes_digestData (bs : List Byte) (s : State) (h : s.bufLen < 64) :
    dataBytes (bs.foldl absorb s).digestData = refBytes (refBlocks s.acc (s.pending ++ bs ++
      refPad (s.bufLen.toNat + bs.length) (8 * (s.cnt.toNat + s.bufLen.toNat + bs.length)))) := by
  have hpad := (foldl_absorb_absorbed bs s h).padding
  rw [State.digestData, dataBytes_serialise, hpad, ← List.foldl_append, (foldl_absorb_absorbed _ s h).acc,
    List.append_assoc]

/-- From an idle engine the stream is the message (R192, R193). -/
theorem dataBytes_digestData_of_idle (m : List Byte) (s : State) (h : s.Idle) :
    dataBytes (m.foldl absorb s).digestData = refDigest m := by
  obtain ⟨hlen, hacc, hcnt⟩ := h
  rw [dataBytes_digestData m s (by rw [hlen]; decide), pending_of_empty s hlen, hlen, hacc, hcnt, refDigest]
  simp

/-! What absorbing leaves in the four architectural items depends on them alone (10_state.md R20). -/

namespace State.SameArch

theorem pushByte {s u : State} (h : s.SameArch u) (b : Byte) : (s.pushByte b).SameArch (u.pushByte b) := by
  obtain ⟨hacc, hbuf, hlen, hcnt⟩ := h
  exact ⟨hacc, by rw [State.pushByte_buf, State.pushByte_buf, hbuf, hlen], congrArg (· + 1) hlen, hcnt⟩

theorem compress {s u : State} (h : s.SameArch u) : s.compress.SameArch u.compress := by
  obtain ⟨hacc, hbuf, -, hcnt⟩ := h
  exact ⟨compress_acc_congr s u hacc hbuf, by rw [State.compress_buf, State.compress_buf],
    by rw [State.compress_bufLen, State.compress_bufLen], by rw [State.compress_cnt, State.compress_cnt, hcnt]⟩

theorem absorb {s u : State} (h : s.SameArch u) (b : Byte) : (absorb s b).SameArch (absorb u b) := by
  have hpush := h.pushByte b
  obtain ⟨-, -, hlen, -⟩ := h
  rw [absorb_eq, absorb_eq, hlen]
  split
  · exact hpush.compress
  · exact hpush

theorem foldl_absorb {s u : State} (h : s.SameArch u) (bs : List Byte) :
    (bs.foldl Machine.absorb s).SameArch (bs.foldl Machine.absorb u) := by
  induction bs generalizing s u with
  | nil => exact h
  | cons b bs ih => exact ih (h.absorb b)

theorem digestData {s u : State} (h : s.SameArch u) : u.digestData = s.digestData := by
  have hpad : u.padding = s.padding := by
    obtain ⟨-, -, hlen, hcnt⟩ := h
    simp only [State.padding, State.padLen, State.bitLen, hlen, hcnt]
  obtain ⟨hacc, -⟩ := h.foldl_absorb s.padding
  rw [State.digestData, hpad, hacc, State.digestData]

end State.SameArch

end Sys2Proof.Machine
end

section
/-! A run over a message in chunks (41_update_buffering.md R126): each `UPDATE_ALL` step absorbs its chunk, the `DIGEST`
step finalizes, and what the steps do around that touches none of the four architectural items. -/

namespace Sys2Proof.Machine

theorem decodeCommand_updateAll_word : decodeCommand 0x0000000000000000B#68 = .updateAll true := by decide

theorem decodeCommand_digest_word : decodeCommand 0x00000000000000007#68 = .digest := by decide

theorem seqIdle_kept : KeptByCommandParts (·.seq = .idle) where
  respond _ _ _ hs := hs
  resetState _ hs := hs
  absorb s b hs := by
    rw [absorb_eq]
    split
    · exact State.compress_seq _
    · exact hs

/-- What `Finalize` answers in a state with room, for the run that follows it (43_finalize_padding.md R187). -/
theorem finalize_answers (s : State) (h : s.bufLen < 64) :
    ∃ u, finalize s = .next u ∧ u.responses = s.responses ++ [⟨.ok, s.digestData⟩] ∧ u.AtReset ∧
      u.inputs = s.inputs := by
  obtain ⟨-, -, hinputs, hresp⟩ := foldl_absorb_frame s.padding s
  refine ⟨_, finalize_eq_digestData s h, ?_, ⟨rfl, rfl, rfl, rfl⟩, hinputs⟩
  rw [State.respond_responses, State.resetState_responses, hresp]

/-- `u` is ready for the host's list `rest` with the four items that absorbing `m` into `s` leaves. -/
structure FedWith (s : State) (m : List Byte) (rest : List Input) (u : State) : Prop where
  arch : (m.foldl absorb s).SameArch u
  seq : u.seq = .idle
  inputs : u.inputs = rest

/-- The step of a presented `UPDATE_ALL` whose source exists. -/
theorem stepWith_updateAll (srcMax : Nat) (s : State) (c : List Byte) (rest : List Input) (hroom : s.bufLen < 64)
    (hseq : s.seq = .idle) (hinputs : s.inputs = .command 0x0000000000000000B#68 c :: rest) (hc : c.length ≤ srcMax) :
    ∃ u, stepWith srcMax s = .next u ∧ FedWith s c rest u := by
  have hx : exec (.updateAll true) (s.attach c rest) =
      .next ((c.foldl absorb (s.attach c rest)).respond .ok 0) := absorbAndRespond_of_lt c (s.attach c rest) hroom
  have hsame : s.SameArch (s.attach c rest) := ⟨rfl, rfl, rfl, rfl⟩
  obtain ⟨-, -, hrest, -⟩ := foldl_absorb_frame c (s.attach c rest)
  refine ⟨((c.foldl absorb (s.attach c rest)).respond .ok 0).detach, ?_,
    hsame.foldl_absorb c, seqIdle_kept.foldl_absorb c _ hseq, hrest⟩
  rw [stepWith_command srcMax s _ c rest hseq hinputs fun _ => hc, decodeCommand_updateAll_word, hx, retire]

/-- The step of a presented `DIGEST`. -/
theorem stepWith_digest (srcMax : Nat) (s : State) (rest : List Input) (hroom : s.bufLen < 64) (hseq : s.seq = .idle)
    (hinputs : s.inputs = .command 0x00000000000000007#68 [] :: rest) :
    ∃ t, stepWith srcMax s = .next t ∧ t.responses.getLast? = some ⟨.ok, s.digestData⟩ ∧ t.AtReset ∧
      t.inputs = rest := by
  have hsame : s.SameArch (s.attach [] rest) := ⟨rfl, rfl, rfl, rfl⟩
  obtain ⟨u, hx, hresp, hreset, hrest⟩ := finalize_answers (s.attach [] rest) hroom
  refine ⟨u.detach, ?_, ?_, hreset, hrest⟩
  · rw [stepWith_command srcMax s _ [] rest hseq hinputs (by rw [decodeCommand_digest_word]; nofun),
      decodeCommand_digest_word, exec_digest, hx, retire]
  · rw [State.detach_responses, hresp, hsame.digestData, List.getLast?_concat]

theorem run_succ_of_next (srcMax k : Nat) (s t : State) (h : stepWith srcMax s = .next t) :
    Host.Core.run (coreWith srcMax) (k + 1) s = Host.Core.run (coreWith srcMax) k t := by
  have hstep : (coreWith srcMax).step s = .next t := h
  simp only [Host.Core.run, hstep]

/-- By induction on the chunks, whose first step leaves a state fed with the first of them. -/
theorem run_updateAlls_digest (srcMax : Nat) (chunks : List (List Byte)) (s : State) (rest : List Input)
    (hroom : s.bufLen < 64) (hseq : s.seq = .idle) (hfit : ∀ c ∈ chunks, c.length ≤ srcMax)
    (hinputs : s.inputs = chunks.map (fun c => .command 0x0000000000000000B#68 c) ++
      .command 0x00000000000000007#68 [] :: rest) :
    ∃ t : State, Host.Core.run (coreWith srcMax) (chunks.length + 1) s = Host.Outcome.next t ∧
      t.responses.getLast? = some ⟨.ok, (chunks.flatten.foldl absorb s).digestData⟩ ∧ t.AtReset ∧ t.inputs = rest := by
  induction chunks generalizing s with
  | nil =>
    obtain ⟨t, hstep, ht⟩ := stepWith_digest srcMax s rest hroom hseq hinputs
    exact ⟨t, run_succ_of_next srcMax 0 s t hstep, ht⟩
  | cons c chunks ih =>
    obtain ⟨u, hstep, hu⟩ := stepWith_updateAll srcMax s c _ hroom hseq hinputs (hfit c List.mem_cons_self)
    obtain ⟨-, -, hlen, -⟩ := hu.arch
    obtain ⟨hroom', -⟩ := foldl_absorb_frame c s
    obtain ⟨t, hrun, hresp, ht⟩ :=
      ih u (hlen ▸ hroom' hroom) hu.seq (fun d hd => hfit d (List.mem_cons_of_mem c hd)) hu.inputs
    refine ⟨t, (run_succ_of_next srcMax _ s u hstep).trans hrun, ?_, ht⟩
    rw [hresp, (hu.arch.foldl_absorb chunks.flatten).digestData, ← List.foldl_append, List.flatten_cons]

/-- Settles O56: the steps absorb the concatenation, and the digest of an idle engine's stream is the message's. -/
theorem chunkingDoesNotChangeTheDigest : Obligations.ChunkingDoesNotChangeTheDigest := by
  intro srcMax s chunks rest hidle hseq hfit hinputs
  have hroom : s.bufLen < 64 := by rw [hidle.1]; decide
  obtain ⟨t, hrun, hresp, hreset, hrest⟩ := run_updateAlls_digest srcMax chunks s rest hroom hseq hfit hinputs
  exact ⟨t, _, hrun, hresp, dataBytes_digestData_of_idle chunks.flatten s hidle, hreset, hrest⟩

end Sys2Proof.Machine
end

section
/-! The table of logical transitions (41_update_buffering.md R129): a command that answers leaves the buffer open, what
was absorbed since the last reset is counted by `cnt` and `bufLen` together, and finalizing resets both. -/

namespace Sys2Proof.Machine

theorem State.Idle.accepting {s : State} (h : s.Idle) : s.Accepting := by
  unfold State.Accepting
  rw [h.1]
  exact Nat.zero_le 63

theorem State.accepting_iff_lt (s : State) : s.Accepting ↔ s.bufLen < 64 := Nat.lt_succ_iff.symm

theorem accepting_kept : KeptByCommandParts State.Accepting where
  respond _ _ _ hs := hs
  resetState _ _ := Nat.zero_le 63
  absorb s b hs := (State.accepting_iff_lt _).2 (absorb_lt s b hs.bufLen_lt)

theorem State.resetState_idle (s : State) : s.resetState.Idle := ⟨rfl, rfl, rfl⟩

theorem finalize_idle (s t : State) (h : finalize s = .next t) : t.Idle := by
  obtain ⟨-, rfl⟩ := finalize_next s t h
  exact (s.padding.foldl absorb s).resetState_idle

theorem absorbAndFinalize_idle (bs : List Byte) (s t : State) (h : absorbAndFinalize bs s = .next t) : t.Idle :=
  finalize_idle _ t (absorbAndFinalize_next bs s t h)

/-- Between commands every command answers (60_exceptions.md R205). -/
theorem exec_command_answers (i : Instr) (s : State) (hi : isCommand i = true) (hs : s.Accepting) :
    ∃ t, exec i s = .next t := by
  have hroom := hs.bufLen_lt
  rcases exec_command_cases i hi s.src with ⟨st, d, hx⟩ | hx | ⟨bs, hx⟩ | ⟨bs, hx⟩ <;> rw [hx s rfl]
  · exact ⟨_, rfl⟩
  · exact ⟨_, rfl⟩
  · exact ⟨_, absorbAndRespond_of_lt bs s hroom⟩
  · rw [absorbAndFinalize_of_lt bs s hroom]
    obtain ⟨hroom', -⟩ := foldl_absorb_frame bs s
    exact ⟨_, finalize_eq_digestData _ (hroom' hroom)⟩

theorem plus_sameArch (st : Status) (d : Data) (s : State) : s.SameArch (s.plus st d) := ⟨rfl, rfl, rfl, rfl⟩

/-! Not idle after absorbing (R27). -/

/-- Short of 2^64 bytes, `cnt` and `bufLen` count what was absorbed. -/
theorem Absorbed.total {s t : State} {bs : List Byte} (h : Absorbed s bs t)
    (hbound : s.cnt.toNat + s.bufLen.toNat + bs.length < 2 ^ 64) :
    t.cnt.toNat + t.bufLen.toNat = s.cnt.toNat + s.bufLen.toNat + bs.length := by
  rw [h.bufLen, h.cnt, BitVec.toNat_add, BitVec.toNat_ofNat]
  omega

theorem State.Idle.total {s : State} (h : s.Idle) : s.cnt.toNat + s.bufLen.toNat = 0 := by
  obtain ⟨hlen, -, hcnt⟩ := h
  rw [hlen, hcnt]
  rfl

/-- An update of at least one byte leads to an accepting state that is not idle. -/
theorem absorbAndRespond_not_idle (bs : List Byte) (s t : State) (hs : s.Accepting) (hpos : 0 < bs.length)
    (hbound : s.cnt.toNat + s.bufLen.toNat + bs.length < 2 ^ 64) (h : absorbAndRespond bs s = .next t) :
    t.Accepting ∧ ¬ t.Idle := by
  have habsorbed := foldl_absorb_absorbed bs s hs.bufLen_lt
  rw [absorbAndRespond_next bs s t h]
  refine ⟨accepting_kept.foldl_absorb bs s hs, fun hidle => ?_⟩
  have htotal := (habsorbed.respond .ok 0).total hbound
  rw [hidle.total] at htotal
  omega

/-! Commands that fail, and finalizing commands that do not (60_exceptions.md R204, R216). -/

theorem exec_failed_sameArch (i : Instr) (s t : State) (st : Status) (d : Data) (hi : isCommand i = true)
    (h : exec i s = .next t) (hresp : t.responses = s.responses ++ [⟨st, d⟩]) (hst : st ≠ .ok) : s.SameArch t := by
  obtain ⟨r, hr, -, -, -, hfail, -⟩ := everyCommandRespondsOnceWithItsStatus i s t hi h
  have heq : r = ⟨st, d⟩ := List.singleton_inj.1 (List.append_cancel_left (hr.symm.trans hresp))
  rw [heq] at hfail
  rw [hfail hst]
  exact plus_sameArch st 0 s

/-- A failure is seen in the response, so a command that responds OK has not raised one. -/
theorem raise_next_ok (st : Status) (d : Data) (s t : State) (h : raise st s = .next t)
    (hresp : t.responses = s.responses ++ [⟨.ok, d⟩]) : st = .ok := by
  cases h
  exact congrArg Response.status (List.singleton_inj.1 (List.append_cancel_left hresp))

theorem digestAll_ok_idle (sp : Bool) (d : Data) (s t : State) (h : exec (.digestAll sp) s = .next t)
    (hresp : t.responses = s.responses ++ [⟨.ok, d⟩]) : t.Idle := by
  cases sp with
  | false => cases raise_next_ok .invalidArgument d s t h hresp
  | true =>
    rw [exec_digestAll_source] at h
    exact absorbAndFinalize_idle s.src s t h

theorem digestRange_ok_idle (sp : Bool) (offset len : Int) (d : Data) (s t : State)
    (h : exec (.digestRange sp offset len) s = .next t) (hresp : t.responses = s.responses ++ [⟨.ok, d⟩]) : t.Idle := by
  rw [exec_digestRange, rangeCommand] at h
  split at h
  · exact absorbAndFinalize_idle _ s t h
  · exact absurd (raise_next_ok _ d s t h hresp) ‹_›

/-- Settles O57: row by row, by what the command absorbs and whether it finalizes. -/
theorem logicalStateTransitions : Obligations.LogicalStateTransitions := by
  refine ⟨fun s h => h.accepting, fun i s hi hs => ?_, fun s t => ⟨fun h => ?length, fun h => ?reset,
    fun hs => ⟨fun b hbound h => ?updateByte, fun hsrc hbound h => ?updateAll,
      fun offset len hoff hlen hfit hbound h => ?updateRange⟩,
    fun hsrc h => ?emptySource, fun offset hoff hfit h => ?emptyRange,
    fun i st d hi h hresp hst => exec_failed_sameArch i s t st d hi h hresp hst,
    finalize_idle s t, fun sp d => digestAll_ok_idle sp d s t,
    fun sp offset len d => digestRange_ok_idle sp offset len d s t⟩⟩
  · obtain ⟨t, h⟩ := exec_command_answers i s hi hs
    exact ⟨t, h, accepting_kept.exec i s t hi hs h⟩
  case length => cases h; exact plus_sameArch .ok 128#128 s
  case reset => cases h; exact s.resetState_idle
  case updateByte => exact absorbAndRespond_not_idle [b] s t hs Nat.one_pos hbound h
  case updateAll => exact absorbAndRespond_not_idle s.src s t hs (List.length_pos_of_ne_nil hsrc) hbound h
  case updateRange =>
    have hvalid : RangeValid s.src.length offset len := ⟨hoff, by omega, hfit⟩
    have hbytes := sourceRange_length offset len s hvalid
    rw [exec_updateRange, rangeCommand_of_valid _ _ _ _ hvalid] at h
    exact absorbAndRespond_not_idle _ s t hs (by omega) (by omega) h
  case emptySource =>
    rw [(updateOfNoBytesOnlyResponds s 0).1 hsrc] at h
    cases h; exact plus_sameArch .ok 0 s
  case emptyRange =>
    rw [(updateOfNoBytesOnlyResponds s offset).2 hoff hfit] at h
    cases h; exact plus_sameArch .ok 0 s

end Sys2Proof.Machine
end

section
/-! The block compressor operation by operation (42_compression.md sections 2 to 5): the round functions bit by bit, the
rows of the table R154 against the rule R150, the two ends of a compression, and all fifty steps together. -/

namespace Sys2Proof.Machine

/-! Words and bits (R141, R143 to R146). -/

theorem mixF_getLsbD (p q z : Word) (i : Nat) (hi : i < 32) :
    (mixF p q z).getLsbD i = if p.getLsbD i = true then q.getLsbD i else z.getLsbD i := by
  rw [mixF, or32, and32, and32, not32_eq, BitVec.getLsbD_or, BitVec.getLsbD_and, BitVec.getLsbD_and, BitVec.getLsbD_not]
  cases p.getLsbD i <;> simp [hi]

theorem mixG_getLsbD (p q z : Word) (i : Nat) :
    (mixG p q z).getLsbD i = decide (2 ≤ (p.getLsbD i).toNat + (q.getLsbD i).toNat + (z.getLsbD i).toNat) := by
  simp only [mixG, or32, and32, BitVec.getLsbD_or, BitVec.getLsbD_and]
  generalize p.getLsbD i = a, q.getLsbD i = b, z.getLsbD i = c
  revert a b c
  decide

theorem mixH_getLsbD (p q z : Word) (i : Nat) :
    (mixH p q z).getLsbD i = decide (((p.getLsbD i).toNat + (q.getLsbD i).toNat + (z.getLsbD i).toNat) % 2 = 1) := by
  simp only [mixH, xor32, BitVec.getLsbD_xor]
  generalize p.getLsbD i = a, q.getLsbD i = b, z.getLsbD i = c
  revert a b c
  decide

/-- Settles O37: the formulas are the definitions, and each bit of a result is a function of three bits. -/
theorem mixingFunctionsAreBitwise : Obligations.MixingFunctionsAreBitwise := fun p q z =>
  ⟨rfl, rfl, rfl, fun i hi => ⟨mixF_getLsbD p q z i hi, mixG_getLsbD p q z i, mixH_getLsbD p q z i⟩⟩

/-- Settles O38: a bit that stays below the top moves up by `n`, and one that leaves the top comes in `32 - n` lower. -/
theorem rotationMovesEveryBit : Obligations.RotationMovesEveryBit := by
  intro p n i _ hn hi
  rw [rotl32_eq_rotateLeft p n (by omega), BitVec.getLsbD_rotateLeft, Nat.mod_eq_of_lt (show n < 32 by omega)]
  by_cases hstay : i + n < 32
  · have hpos : (i + n) % 32 = i + n := Nat.mod_eq_of_lt hstay
    simp [hpos, hstay]
  · have hpos : (i + n) % 32 = i + n - 32 := by omega
    have hfrom : 32 - n + (i + n - 32) = i := by omega
    simp [hpos, hfrom, show i + n - 32 < n by omega]

theorem le32dec_toNat (b0 b1 b2 b3 : Byte) :
    (le32dec b0 b1 b2 b3).toNat = b0.toNat + 2 ^ 8 * b1.toNat + 2 ^ 16 * b2.toNat + 2 ^ 24 * b3.toNat := by
  have h0 := b0.isLt
  have h1 := b1.isLt
  have h2 := b2.isLt
  have h3 := b3.isLt
  rw [le32dec_eq_ofNat, BitVec.toNat_ofNat, Nat.mod_eq_of_lt (by omega)]

/-- Settles O39: message word `k` is `BufRead32(k)`, which decodes its four bytes. -/
theorem blockWordsAreLittleEndian : Obligations.BlockWordsAreLittleEndian := by
  intro s k
  rw [blockWords_getElem, State.bufRead32, le32dec_toNat]

/-! The ROM's word orders (R151). -/

/-- Each word order is its own inverse: the identity, a transposition of a square, a reversal of bits. -/
theorem romK_involutive (r : Round) : Function.Involutive fun j : Fin 16 => (romK r)[j] := by
  unfold Function.Involutive
  cases r <;> decide

/-- Settles O36: the closed forms are the reference's, and an involution takes every value once. -/
theorem wordOrdersAreTheClosedForms : Obligations.WordOrdersAreTheClosedForms :=
  ⟨fun j => ⟨romK_eq_reference .r1 j, romK_eq_reference .r2 j, romK_eq_reference .r3 j⟩,
    fun r => (Function.bijective_iff_existsUnique _).1 (romK_involutive r).bijective⟩

/-! A round operation and the move of the sequencer after it, for any row of its round (R147 to R149). -/

section
variable (a b c d : Fin 4) (k : Fin 16) (n t : Nat) (hn : n < 32) (s : State)
include hn

theorem op1_advance : (op1 a b c d k n s).advance t =
    s.worked a ((s.v[a] + ((s.v[b] &&& s.v[c]) ||| (~~~s.v[b] &&& s.v[d])) + s.x[k]).rotateLeft n) (seqAfter t) := by
  have hop := roundOp_eq_reference .r1 a b c d k n hn s
  simp only [Round.index, refMix, refConst, BitVec.add_zero] at hop
  exact congrArg (State.advance t) hop

theorem op2_advance : (op2 a b c d k n s).advance t =
    s.worked a ((s.v[a] + ((s.v[b] &&& s.v[c]) ||| (s.v[b] &&& s.v[d]) ||| (s.v[c] &&& s.v[d])) + s.x[k]
      + 0x5A827999#32).rotateLeft n) (seqAfter t) :=
  congrArg (State.advance t) (roundOp_eq_reference .r2 a b c d k n hn s)

theorem op3_advance : (op3 a b c d k n s).advance t =
    s.worked a ((s.v[a] + (s.v[b] ^^^ s.v[c] ^^^ s.v[d]) + s.x[k] + 0x6ED9EBA1#32).rotateLeft n) (seqAfter t) :=
  congrArg (State.advance t) (roundOp_eq_reference .r3 a b c d k n hn s)

end

/-- Settles O32: every row is round 1's operation on the row's operands. -/
theorem roundOneOperationsAreTheTable : Obligations.RoundOneOperationsAreTheTable := by
  intro s
  and_intros <;> exact congrArg Host.Outcome.next (op1_advance _ _ _ _ _ _ _ (by decide) s)

/-- Settles O33: every row is round 2's operation on the row's operands. -/
theorem roundTwoOperationsAreTheTable : Obligations.RoundTwoOperationsAreTheTable := by
  intro s
  and_intros <;> exact congrArg Host.Outcome.next (op2_advance _ _ _ _ _ _ _ (by decide) s)

/-- Settles O34: every row is round 3's operation on the row's operands. -/
theorem roundThreeOperationsAreTheTable : Obligations.RoundThreeOperationsAreTheTable := by
  intro s
  and_intros <;> exact congrArg Host.Outcome.next (op3_advance _ _ _ _ _ _ _ (by decide) s)

/-! The schedule (R150) and its steps. -/

/-- Row by row: the operands written in the table are those the rule computes from the ROM (R150, R154). -/
theorem exec_stepInstrs_eq_stepOp (t : Nat) (ht : t < stepInstrs.length) (s : State) :
    exec stepInstrs[t] s = .next ((stepOp t s).advance t) := by
  rw [stepInstrs_length] at ht
  interval_cases t <;> rfl

/-- Settles O35: an index with an operation is a row of the table. -/
theorem scheduleRuleGivesTheTable : Obligations.ScheduleRuleGivesTheTable := by
  intro t i s hi
  obtain ⟨ht, rfl⟩ := List.getElem?_eq_some_iff.1 hi
  exact exec_stepInstrs_eq_stepOp t ht s

theorem runEncoded_of_decode (e : Encoded) (i : Instr) (s : State) (h : decode e = .ok i) :
    runEncoded e s = exec i s := by
  simp only [runEncoded, h]

/-- Settles O12: at an index that decodes, a step is the operation, whatever the limit on sources. -/
theorem stepRunsTheIndexedOperation : Obligations.StepRunsTheIndexedOperation := by
  intro s t i hseq hdecode _
  have hstep (srcMax : Nat) : stepWith srcMax s = exec i s :=
    (stepWith_index srcMax s t hseq).trans (runEncoded_of_decode _ i s hdecode)
  exact ⟨hstep _, hstep⟩

/-! The two ends of a compression (R141, R142; R155 to R157). -/

/-- Settles O40: the step at `load` is `loadBlock`. -/
theorem loadPhaseDecodesAndCopies : Obligations.LoadPhaseDecodesAndCopies := fun s hseq =>
  ⟨s.loadBlock, stepWith_load _ s hseq, rfl, rfl, blockWords_getElem s, rfl, rfl, rfl, rfl, rfl, rfl, rfl⟩

theorem feedForward_getElem (s : State) (i : Fin 4) : s.feedForward[i] = s.acc[i] + s.v[i] := by
  match i with
  | 0 | 1 | 2 | 3 => rfl

/-- Settles O41: the step at `fold` is `foldBlock`. -/
theorem foldPhaseEndsTheCompression : Obligations.FoldPhaseEndsTheCompression := fun s hseq =>
  ⟨s.foldBlock, stepWith_fold _ s hseq, feedForward_getElem s, BitVec.toNat_add s.cnt 64, rfl,
    fun i => zeroBuf_getElem i.val i.isLt, rfl, rfl, rfl, rfl, rfl, rfl⟩

/-- Settles O42: the schedule part by part, the message words by value, and the feed-forward, as `State.compress_acc`
joins them. -/
theorem compressIsTheReferenceCompression : Obligations.CompressIsTheReferenceCompression := State.compress_acc

/-! Fifty steps (R140). An operation does not look at the sequencer, so stepping with the moves of the sequencer in between
and running the operations alone come to the same working variables. -/

theorem stepOp_advance (t n : Nat) (s : State) : stepOp t (s.advance n) = (stepOp t s).advance n := by
  unfold stepOp
  cases roundOf t <;> rfl

theorem advance_advance (t n : Nat) (s : State) : (s.advance n).advance t = s.advance t := rfl

/-- A step at index `t` is the operation the rule gives (R150). -/
theorem stepWith_operation (srcMax t : Nat) (ht : t < 48) (s : State) (hseq : s.seq = .step (BitVec.ofNat 6 t)) :
    stepWith srcMax s = .next ((stepOp t s).advance t) := by
  have htoNat : (BitVec.ofNat 6 t).toNat = t := by rw [BitVec.toNat_ofNat]; omega
  have hdecode : decode (.step (BitVec.ofNat 6 t)) = .ok (stepInstrs[t]'(stepInstrs_length ▸ ht)) := by
    simpa only [decode, htoNat] using decodeStep_of_lt (BitVec.ofNat 6 t) (htoNat.trans_lt ht)
  rw [stepWith_index srcMax s _ hseq, runEncoded_of_decode _ _ s hdecode, exec_stepInstrs_eq_stepOp]

theorem seqAfter_of_lt (n : Nat) (h : n < 47) : seqAfter n = .step (BitVec.ofNat 6 (n + 1)) := if_neg h.ne

/-- The first `n + 1` operations, stepped through from step 0. -/
theorem run_operations (srcMax n k : Nat) (hn : n < 48) (s : State) (hseq : s.seq = .step 0) :
    Host.Core.run (coreWith srcMax) (k + (n + 1)) s =
      Host.Core.run (coreWith srcMax) k (((List.range (n + 1)).foldl (fun u t => stepOp t u) s).advance n) := by
  induction n generalizing k with
  | zero => exact run_succ_of_next srcMax k s _ (stepWith_operation srcMax 0 hn s hseq)
  | succ n ih =>
    have hstep := stepWith_operation srcMax (n + 1) hn
      (((List.range (n + 1)).foldl (fun u t => stepOp t u) s).advance n) (seqAfter_of_lt n (by omega))
    rw [stepOp_advance, advance_advance] at hstep
    rw [List.range_succ, List.foldl_append, show k + (n + 1 + 1) = k + 1 + (n + 1) by omega, ih (k + 1) (by omega)]
    exact run_succ_of_next srcMax k _ _ hstep

theorem run_compression (srcMax : Nat) (s : State) (hseq : s.seq = .load) :
    Host.Core.run (coreWith srcMax) 50 s = Host.Outcome.next s.compress := by
  have hfold (u : State) : stepWith srcMax (u.advance 47) = .next u.foldBlock :=
    stepWith_fold srcMax (u.advance 47) rfl
  rw [run_succ_of_next srcMax 49 s _ (stepWith_load srcMax s hseq),
    run_operations srcMax 47 1 (by decide) s.loadBlock s.loadBlock_seq, run_succ_of_next srcMax 0 _ _ (hfold _)]
  rfl

/-- Settles O43: at every limit, and the host's machine is the one at the default. -/
theorem steppingThroughACompressionIsCompress : Obligations.SteppingThroughACompressionIsCompress := fun s hseq =>
  ⟨run_compression Config.srcMaxDefault s hseq, fun srcMax => run_compression srcMax s hseq⟩

end Sys2Proof.Machine
end

section
/-! The padding unit, the serialiser and the finalizing commands (43_finalize_padding.md). The padding always completes a
block, so `Finalize` leaves the compressor at rest and, by its reset, nothing of the message. -/

namespace Sys2Proof.Machine

/-! The lengths (R180, R181). -/

theorem bitLen_toNat (s : State) : s.bitLen.toNat = (s.cnt.toNat + s.bufLen.toNat) * 8 % 2 ^ 64 := by
  simp only [State.bitLen, mul64, add64, BitVec.toNat_mul, BitVec.toNat_add, BitVec.toNat_setWidth, BitVec.reduceToNat]
  omega

/-- Settles O44: a multiple of 8 mod 2^64 is 8 times a number mod 2^61. -/
theorem bitLengthWrapsModulo2To64 : Obligations.BitLengthWrapsModulo2To64 := fun s =>
  ⟨bitLen_toNat s, by rw [bitLen_toNat]; omega⟩

theorem padLen_eq (s : State) :
    s.padLen = if 64 - s.bufLen.toNat < 9 then 64 - s.bufLen.toNat + 64 else 64 - s.bufLen.toNat := rfl

/-- The padding has room for the marker and the length, and is shorter than that and one more block (R181). -/
theorem padLen_bounds (s : State) : 9 ≤ s.padLen ∧ s.padLen ≤ 72 := by
  rw [padLen_eq]
  split <;> omega

/-- The padding ends at the first block boundary that leaves room for it, or at the one after. -/
theorem bufLen_add_padLen (s : State) (h : s.Accepting) :
    s.bufLen.toNat + s.padLen = if s.bufLen.toNat ≤ 55 then 64 else 128 := by
  have hle : s.bufLen.toNat ≤ 63 := h
  rw [padLen_eq]
  split_ifs <;> omega

/-! The bytes (R182, R183). -/

theorem lengthBytes_eq_map (n : Count) : lengthBytes n = (List.range 8).map fun k => n.extractLsb' (8 * k) 8 := by
  have h := lengthBytes_ofNat n.toNat
  rw [BitVec.ofNat_toNat, BitVec.setWidth_eq] at h
  simp only [h, refLe64, extractByte_eq_ofNat]

theorem padding_length (s : State) : s.padding.length = s.padLen := by
  obtain ⟨hmin, -⟩ := padLen_bounds s
  rw [State.padding, List.length_cons, List.length_append, List.length_replicate, lengthBytes_eq_map, List.length_map,
    List.length_range]
  omega

theorem padding_zero (s : State) (i : Nat) (hpos : 1 ≤ i) (hi : i ≤ s.padLen - 9) : s.padding[i]? = some 0#8 := by
  obtain ⟨j, rfl⟩ := Nat.exists_eq_add_of_le' hpos
  rw [State.padding, List.getElem?_cons_succ, List.getElem?_append_left (by rw [List.length_replicate]; omega),
    List.getElem?_replicate_of_lt hi]

theorem padding_lengthByte (s : State) (k : Nat) (hk : k < 8) :
    s.padding[s.padLen - 8 + k]? = some (s.bitLen.extractLsb' (8 * k) 8) := by
  obtain ⟨hmin, -⟩ := padLen_bounds s
  have hindex : s.padLen - 8 + k = s.padLen - 9 + k + 1 := by omega
  rw [State.padding, hindex, List.getElem?_cons_succ,
    List.getElem?_append_right (by rw [List.length_replicate]; omega), List.length_replicate, Nat.add_sub_cancel_left,
    lengthBytes_eq_map, List.getElem?_map, List.getElem?_range hk, Option.map_some]

/-- Settles O46: the marker, the zeros and the bytes of the length each stand where the lengths of the parts put them. -/
theorem paddingSequenceBytes : Obligations.PaddingSequenceBytes := fun s _ =>
  ⟨padding_length s, rfl, padding_zero s, padding_lengthByte s⟩

/-! Absorbing the padding (R184). -/

/-- The closed form of R127 for the padding. -/
theorem absorbed_padding (s : State) (h : s.Accepting) : Absorbed s s.padding (s.padding.foldl absorb s) :=
  foldl_absorb_absorbed s.padding s h.bufLen_lt

theorem absorbAll_padding (s : State) (h : s.Accepting) :
    absorbAll s.padding s = some (s.padding.foldl absorb s) :=
  absorbAll_of_lt s.padding s h.bufLen_lt

/-- Settles O45: the cases of the definition, and one block absorbed for each 64 bytes of the sum. -/
theorem paddingLengthByBufferLength : Obligations.PaddingLengthByBufferLength := by
  intro s h
  have hsum := bufLen_add_padLen s h
  obtain ⟨hmin, hmax⟩ := padLen_bounds s
  refine ⟨padLen_eq s, hmin, hmax, by omega, fun hshort => ?_, fun hlong => ?_, _, absorbAll_padding s h, ?_⟩
  · rw [hsum, if_pos hshort]
  · rw [hsum, if_neg (by omega)]
  · rw [(absorbed_padding s h).cnt, padding_length]

/-- Settles O47: buffer and padding together are 64 or 128 bytes, whole blocks. -/
theorem paddingEmptiesTheBuffer : Obligations.PaddingEmptiesTheBuffer := by
  intro s h
  have hsum := bufLen_add_padLen s h
  have hlen := (absorbed_padding s h).bufLen
  have hcnt := (absorbed_padding s h).cnt
  rw [padding_length, hsum] at hlen hcnt
  refine ⟨_, absorbAll_padding s h, BitVec.eq_of_toNat_eq ?_, ?_, foldl_absorb_responses _ s⟩
  · rw [hlen]
    split <;> rfl
  · rw [hcnt]
    split <;> rfl

/-- The padding completes a block, and after a block the compressor rests. -/
theorem foldl_absorb_padding_atRest (s : State) (h : s.Accepting) : (s.padding.foldl absorb s).AtRest := by
  refine (absorbed_padding s h).someBlock ?_
  rw [padding_length, bufLen_add_padLen s h]
  split <;> decide

/-! The result (R186). -/

theorem serialise_getElem? (acc : Vector Word 4) (i j : Fin 4) :
    (serialise acc)[4 * i.val + j.val]? = some (acc[i].extractLsb' (8 * j.val) 8) := by
  obtain ⟨i, hi⟩ := i
  obtain ⟨j, hj⟩ := j
  interval_cases i <;> interval_cases j <;> rfl

/-- Settles O48: the response data hold the serialiser's bytes in its order. -/
theorem resultBytesAreTheAccumulator : Obligations.ResultBytesAreTheAccumulator := by
  intro acc i j
  have hbyte := serialise_getElem? acc i j
  obtain ⟨hlt, hget⟩ := List.getElem?_eq_some_iff.1 hbyte
  exact ⟨(packBytes_extractByte _ _ (by omega) hlt).trans hget, hbyte, rfl⟩

/-! The finalizing commands (R187 to R190). -/

/-- Absorbing bytes and finalizing is what the claims call digesting them, with the result as the model computes it. -/
theorem absorbAndFinalize_digested (bs : List Byte) (s : State) (h : s.Accepting) :
    ∃ t, absorbAndFinalize bs s = .next t ∧ Digested s bs t ∧
      t.responses = s.responses ++ [⟨.ok, (bs.foldl absorb s).digestData⟩] := by
  have hu := accepting_kept.foldl_absorb bs s h
  obtain ⟨t, hx, hresp, hreset, -⟩ := finalize_answers (bs.foldl absorb s) hu.bufLen_lt
  obtain ⟨-, ht⟩ := finalize_next _ t hx
  rw [foldl_absorb_responses] at hresp
  rw [← absorbAndFinalize_of_lt bs s h.bufLen_lt] at hx
  obtain ⟨_, hanswered⟩ := absorbAndFinalize_answered bs s t hx
  exact ⟨t, hx, {
    response := ⟨_, hresp, dataBytes_digestData bs s h.bufLen_lt⟩
    reset := hreset
    compressor := ht ▸ foldl_absorb_padding_atRest _ hu
    src := hanswered.src
    inputs := hanswered.inputs }, hresp⟩

/-- Settles O49: `DIGEST` digests no further byte. -/
theorem digestFinalizes : Obligations.DigestFinalizes := by
  intro s h
  obtain ⟨t, hx, hdigested, -⟩ := absorbAndFinalize_digested [] s h
  rw [absorbAndFinalize_nil] at hx
  exact ⟨t, hx, hdigested⟩

/-- Settles O50: `DIGEST_ALL` digests the source. -/
theorem digestAllAbsorbsAndFinalizes : Obligations.DigestAllAbsorbsAndFinalizes := by
  intro s h
  obtain ⟨t, hx, hdigested, -⟩ := absorbAndFinalize_digested s.src s h
  exact ⟨t, (exec_digestAll_source s).trans hx, hdigested⟩

/-- Settles O51: `DIGEST_RANGE` digests the bytes of a valid range. -/
theorem digestRangeAbsorbsAndFinalizes : Obligations.DigestRangeAbsorbsAndFinalizes := by
  intro s offset len h hoff hlen hfit
  have hvalid : RangeValid s.src.length offset len := ⟨hoff, hlen, hfit⟩
  obtain ⟨t, hx, hdigested, -⟩ := absorbAndFinalize_digested (s.sourceRange offset len) s h
  refine ⟨s.sourceRange offset len, t, sourceRange_length offset len s hvalid, sourceRange_getElem? offset len s, ?_,
    hdigested⟩
  rw [exec_digestRange, rangeCommand_of_valid _ _ _ _ hvalid, hx]

/-- Settles O55: from an idle engine the bytes digested are the message. -/
theorem digestOfAnIdleEngineIsTheMessageDigest : Obligations.DigestOfAnIdleEngineIsTheMessageDigest := by
  intro s hidle
  obtain ⟨t, hx, hdigested, hresp⟩ := absorbAndFinalize_digested s.src s hidle.accepting
  exact ⟨t, _, (exec_digestAll_source s).trans hx, hresp, dataBytes_digestData_of_idle s.src s hidle, hdigested.reset⟩

/-! Reset or unchanged (R191). -/

/-- The two outcomes of R191. -/
def ResetOrFailed (s t : State) : Prop :=
  (∃ d, t.responses = s.responses ++ [⟨.ok, d⟩] ∧ t.AtReset) ∨ ∃ st, st ≠ .ok ∧ t = s.plus st 0

theorem finalize_atReset (s t : State) (h : finalize s = .next t) : t.AtReset := by
  obtain ⟨-, rfl⟩ := finalize_next s t h
  exact ⟨rfl, rfl, rfl, rfl⟩

theorem absorbAndFinalize_resets (bs : List Byte) (s t : State) (h : absorbAndFinalize bs s = .next t) :
    ResetOrFailed s t := by
  obtain ⟨d, hanswered⟩ := absorbAndFinalize_answered bs s t h
  exact .inl ⟨d, hanswered.responses, finalize_atReset _ t (absorbAndFinalize_next bs s t h)⟩

theorem raise_resetOrFailed (st : Status) (hst : st ≠ .ok) (s t : State) (h : raise st s = .next t) :
    ResetOrFailed s t := by
  cases h
  exact .inr ⟨st, hst, rfl⟩

/-- Settles O53: a finalizing command raises a failure, or absorbs and finalizes. -/
theorem finalizingResetsOrFailsUnchanged : Obligations.FinalizingResetsOrFailsUnchanged := by
  rintro i s t (rfl | ⟨sp, rfl⟩ | ⟨sp, offset, len, rfl⟩) h
  · rw [exec_digest, ← absorbAndFinalize_nil] at h
    exact absorbAndFinalize_resets [] s t h
  · cases sp with
    | false => exact raise_resetOrFailed .invalidArgument (by decide) s t h
    | true => exact absorbAndFinalize_resets s.src s t h
  · rw [exec_digestRange, rangeCommand] at h
    split at h
    · exact absorbAndFinalize_resets _ s t h
    · exact raise_resetOrFailed _ ‹_› s t h

/-! A second `DIGEST` (R188). -/

/-- One compression, of the padding of the empty input. -/
theorem reset_digestData : State.reset.digestData = 0xc089c0e0d7593cb731e96ad1e0cfd631#128 := by decide +kernel

/-- Settles O54: the second `DIGEST` answers what it answers at reset, where no byte has been received. -/
theorem secondDigestIsOfTheEmptyInput : Obligations.SecondDigestIsOfTheEmptyInput := by
  intro s t h
  have hsame : State.reset.SameArch t := finalize_atReset s t h
  obtain ⟨u, hx, hresp, -⟩ := finalize_answers t (finalize_idle s t h).accepting.bufLen_lt
  rw [hsame.digestData, reset_digestData] at hresp
  exact ⟨u, hx, hresp⟩

end Sys2Proof.Machine
end

section
/-! The engine and its exceptions (60_exceptions.md): no step stops under the invariant (R205, R208), each failure has
its own conditions (R201 to R204), and the engine holds its state (R214). -/

namespace Sys2Proof.Machine

/-! Progress (R205, R208): each phase of a compression and each action of the host has an answer. -/

/-- Under the invariant the sequencer's index is one of the 48 that have an operation (30_encoding.md R90). -/
theorem stepWith_index_answers (srcMax : Nat) (s : State) (hs : s.Inv) (k : StepIndex) (hseq : s.seq = .step k) :
    ∃ t, stepWith srcMax s = .next t :=
  ⟨_, stepWith_operation srcMax k.toNat (hs.index k hseq) s (by rw [hseq, BitVec.ofNat_toNat, BitVec.setWidth_eq])⟩

/-- A presented command whose source exists answers, since the buffer has room between commands (10_state.md R27). -/
theorem stepWith_command_answers (srcMax : Nat) (s : State) (hs : s.Inv) (w : CmdWord) (src : List Byte)
    (rest : List Input) (hseq : s.seq = .idle) (hi : s.inputs = .command w src :: rest)
    (hlen : takesSource (decodeCommand w) = true → src.length ≤ srcMax) : ∃ t, stepWith srcMax s = .next t := by
  have haccepting : (s.attach src rest).Accepting := (hs.settled s hseq).accepting
  obtain ⟨u, hu⟩ := exec_command_answers _ (s.attach src rest) (isCommand_decodeCommand w) haccepting
  exact ⟨u.detach, by rw [stepWith_command srcMax s w src rest hseq hi hlen, hu, retire]⟩

theorem stepWith_answers (srcMax : Nat) (s : State) (hs : s.Inv)
    (hfits : ∀ w src rest, s.inputs = .command w src :: rest → takesSource (decodeCommand w) = true →
      src.length ≤ srcMax) : ∃ t, stepWith srcMax s = .next t := by
  match hseq : s.seq with
  | .load => exact ⟨_, stepWith_load srcMax s hseq⟩
  | .step k => exact stepWith_index_answers srcMax s hs k hseq
  | .fold => exact ⟨_, stepWith_fold srcMax s hseq⟩
  | .idle =>
    match hi : s.inputs with
    | [] => exact ⟨s, (stepWith_idle srcMax s hseq).trans (takeInput_nil srcMax s hi)⟩
    | .rst :: rest => exact ⟨_, (stepWith_idle srcMax s hseq).trans (takeInput_rst srcMax s rest hi)⟩
    | .command w src :: rest => exact stepWith_command_answers srcMax s hs w src rest hseq hi (hfits w src rest hi)

theorem stepWith_answers_inv (srcMax : Nat) (s : State) (hs : s.Inv)
    (hfits : ∀ w src rest, s.inputs = .command w src :: rest → takesSource (decodeCommand w) = true →
      src.length ≤ srcMax) : ∃ t, stepWith srcMax s = .next t ∧ t.Inv := by
  obtain ⟨t, ht⟩ := stepWith_answers srcMax s hs hfits
  exact ⟨t, ht, stepWith_inv srcMax s t hs ht⟩

/-- Settles O10: by the phase of the sequencer and the host's action there is an answer, and `stepWith_inv` says that it
meets the invariant. -/
theorem noStepStopsUnderTheInvariant : Obligations.NoStepStopsUnderTheInvariant :=
  ⟨stepWith_answers_inv Config.srcMaxDefault, stepWith_answers_inv⟩

/-! `OutOfRange` (R202). -/

/-- The three causes of R202 are the negation of the range's validity. -/
theorem not_rangeValid_iff (n : Nat) (offset len : Int) :
    ¬ RangeValid n offset len ↔ offset < 0 ∨ len < 0 ∨ offset + len > (n : Int) := by
  unfold RangeValid
  omega

theorem validate_eq_outOfRange_iff (sp : Bool) (n : Nat) (offset len : Int) :
    validate sp n offset len = .outOfRange ↔ sp = true ∧ ¬ RangeValid n offset len := by
  refine ⟨fun h => ?_, fun ⟨hsp, hbad⟩ => hsp ▸ validate_outOfRange n offset len hbad⟩
  cases sp with
  | false => cases h
  | true => exact ⟨rfl, fun hvalid => nomatch ((validate_ok _ _ _ _).2 ⟨rfl, hvalid⟩).symm.trans h⟩

/-- A range that validation rejects is not run on: the command raises the status (R204). -/
theorem rangeCommand_of_rejected (run : List Byte → State → Answer) (sp : Bool) (offset len : Int) (s : State)
    (st : Status) (hv : validate sp s.src.length offset len = st) (hst : st ≠ .ok) :
    rangeCommand run sp offset len s = .next (s.plus st 0) := by
  subst hv
  exact if_neg hst

/-- A command has one response (30_encoding.md R87). -/
theorem response_unique (s t : State) (r r' : Response) (h : t.responses = s.responses ++ [r])
    (h' : t.responses = s.responses ++ [r']) : r = r' :=
  List.singleton_inj.1 (List.append_cancel_left (h.symm.trans h'))

/-- Only a range command with a source responds `OUT_OF_RANGE`, on a range that is not valid, and with zero data. -/
theorem outOfRange_response (i : Instr) (s t : State) (d : Data) (hi : isCommand i = true) (h : exec i s = .next t)
    (hresp : t.responses = s.responses ++ [⟨.outOfRange, d⟩]) :
    d = 0 ∧ ∃ offset len : Int, (i = .updateRange true offset len ∨ i = .digestRange true offset len) ∧
      ¬ RangeValid s.src.length offset len := by
  obtain ⟨r, hr, -, -, -, hfail, hrow⟩ := everyCommandRespondsOnceWithItsStatus i s t hi h
  obtain rfl := response_unique s t r _ hr hresp
  have hunchanged : t = s.plus .outOfRange 0 := hfail nofun
  have hdata : Response.mk .outOfRange d = ⟨.outOfRange, 0⟩ := response_unique s t _ _ hresp (hunchanged ▸ rfl)
  refine ⟨congrArg Response.data hdata, ?_⟩
  cases i with
  | updateRange sp offset len =>
    have hstatus := congrArg Response.status hrow
    obtain ⟨rfl, hbad⟩ := (validate_eq_outOfRange_iff sp _ offset len).1 ((validate_eq _ _ _ _).trans hstatus.symm)
    exact ⟨offset, len, .inl rfl, hbad⟩
  | digestRange sp offset len =>
    obtain ⟨rfl, hbad⟩ := (validate_eq_outOfRange_iff sp _ offset len).1 ((validate_eq _ _ _ _).trans hrow.symm)
    exact ⟨offset, len, .inr rfl, hbad⟩
  | updateAll sp => cases sp <;> cases hrow
  | digestAll sp => cases sp <;> cases hrow
  | _ => cases hrow

/-- Settles O25: a range that is not valid is rejected, and no other command has the status. -/
theorem badRangeIsOutOfRange : Obligations.BadRangeIsOutOfRange := by
  refine ⟨fun s offset len hbad => ?_, fun i s t d hi h hresp => ?_⟩
  · have hv := validate_outOfRange s.src.length offset len ((not_rangeValid_iff _ _ _).2 hbad)
    rw [exec_updateRange, exec_digestRange]
    exact ⟨rangeCommand_of_rejected _ _ _ _ s _ hv (by decide), rangeCommand_of_rejected _ _ _ _ s _ hv (by decide)⟩
  · simpa only [not_rangeValid_iff] using outOfRange_response i s t d hi h hresp

/-! `InvalidArgument` (R201, R203), and the engine at rest (R214). -/

/-- Settles O24: the first test of both validations is that of the source (41_update_buffering.md R122). -/
theorem absentSourceIsInvalidArgument : Obligations.AbsentSourceIsInvalidArgument := by
  intro s offset len
  rw [exec_updateRange, exec_digestRange]
  exact ⟨rfl, rangeCommand_of_rejected _ _ _ _ s _ rfl (by decide), rfl,
    rangeCommand_of_rejected _ _ _ _ s _ rfl (by decide)⟩

/-- Settles O15: between commands a step is the host's action, and there is none. -/
theorem theEngineHoldsItsState : Obligations.TheEngineHoldsItsState := fun s hseq hinputs =>
  (stepWith_idle Config.srcMaxDefault s hseq).trans (takeInput_nil Config.srcMaxDefault s hinputs)

end Sys2Proof.Machine
end

section
/-! Hardware reset (70_reset_and_hazards.md R230, R232): the host asserts `rst` between commands. -/

namespace Sys2Proof.Machine

theorem State.resetState_atReset (s : State) : s.resetState.AtReset := ⟨rfl, rfl, rfl, rfl⟩

theorem stepWith_rst (srcMax : Nat) (s : State) (rest : List Input) (hseq : s.seq = .idle)
    (hi : s.inputs = .rst :: rest) : stepWith srcMax s = .next (s.withInputs rest).resetState := by
  rw [stepWith_idle srcMax s hseq, takeInput_rst srcMax s rest hi, State.hardwareReset_eq]

/-- Settles O14: the step takes `rst` off the host's list and is `ResetState()`, which writes the four architectural items
only. -/
theorem hardwareResetInputResets : Obligations.HardwareResetInputResets := fun s rest hseq hi =>
  ⟨(s.withInputs rest).resetState, stepWith_rst Config.srcMaxDefault s rest hseq hi, State.resetState_atReset _,
    rfl, rfl, hseq, rfl, rfl, rfl⟩

end Sys2Proof.Machine
end
